-- ==== Sys2Proof/Word.lean ====
section
/-! DEFINITION. The widths of the block (00_scope.md R8). -/

namespace Sys2Proof

/-- A FIFO entry, one bus transfer, a ratio or a sub-divider: `DATA_W` = `BUS_W` = `RATIO_W` = 8 (R8). -/
abbrev Byte := BitVec 8

/-- A register address: `ADDR_W` = 5 (R8). -/
abbrev Addr := BitVec 5

/-- The tick counter and its snapshot: `TICK_W` = 32 (R8). -/
abbrev Count := BitVec 32

/-- An event word (30_encoding.md R70). -/
abbrev EventWord := BitVec 16

end Sys2Proof
end

