-- ==== Sys2Proof/Config.lean ====
section
/-! DEFINITION. What an implementation of the block fixes (00_scope.md R8), and the values the spec leaves free. -/

namespace Sys2Proof.Config

/-- The parameter CAP less one. 00_scope.md R8 and 92_eei_decisions.md D6 leave CAP open in 1..255, so this has
no body: nothing can be proved of the instance's capacity beyond that range (log 1). -/
opaque capLessOne : Fin 255

/-- `CAP`, the FIFO capacity of the instance that `State.reset` describes: an integer, 1 <= CAP <= 255 (R8). -/
def CAP : Nat := capLessOne.val + 1

/-- What a FIFO entry that no PUSH has written holds: "unspecified" (R21, R241), hence a free value. `era` is how
many reset cycles have passed, `i` the entry (log 2). -/
opaque unwrittenByte (era i : Nat) : Byte

/-- `RATIO_F_RST`, `RATIO_M_RST` and `RATIO_S_RST`: the ratios' reset values (R8). -/
def ratioFReset : Byte := 5
def ratioMReset : Byte := 10
def ratioSReset : Byte := 10

end Sys2Proof.Config
end

