-- ==== Sys2Proof/Syntax.lean ====
section
/-! DEFINITION. The transactions the block accepts (00_scope.md R3): one constructor per row of spec/opcode_table.json. -/

namespace Sys2Proof

/-- One event. RD_RSVD and WR_RSVD take five rows each, one per match and mask group of 30_encoding.md R76; a row
of several addresses carries the 5-bit reserved address `a`. -/
inductive Instr where
  /-- RD_STATUS, address 0x00: R101. -/
  | rdStatus
  /-- RD_RXDATA, address 0x01: R103. -/
  | rdRxdata
  /-- RD_COUNT, address 0x02: R105. -/
  | rdCount
  /-- RD_CAPACITY, address 0x03: R107. -/
  | rdCapacity
  /-- RD_CTRL, address 0x04: R190. -/
  | rdCtrl
  /-- RD_CMD, address 0x05: R192. -/
  | rdCmd
  /-- RD_FLAGS, address 0x06: R150. -/
  | rdFlags
  /-- RD_FAST_RATIO, address 0x08: R152. -/
  | rdFastRatio
  /-- RD_MED_RATIO, address 0x09: R154. -/
  | rdMedRatio
  /-- RD_SLOW_RATIO, address 0x0A: R156. -/
  | rdSlowRatio
  /-- RD_FAST_DIV, address 0x0C: R158. -/
  | rdFastDiv
  /-- RD_MED_DIV, address 0x0D: R160. -/
  | rdMedDiv
  /-- RD_SLOW_DIV, address 0x0E: R162. -/
  | rdSlowDiv
  /-- RD_TICK0, address 0x10: R164. -/
  | rdTick0
  /-- RD_TICK1, address 0x11: R166. -/
  | rdTick1
  /-- RD_TICK2, address 0x12: R168. -/
  | rdTick2
  /-- RD_TICK3, address 0x13: R170. -/
  | rdTick3
  /-- RD_RSVD, address 0x07: R193. -/
  | rdRsvd07
  /-- RD_RSVD, address 0x0B: R193. -/
  | rdRsvd0B
  /-- RD_RSVD, address 0x0F: R193. -/
  | rdRsvd0F
  /-- RD_RSVD, addresses 0x14..0x17: R193. -/
  | rdRsvd14to17 (a : Addr)
  /-- RD_RSVD, addresses 0x18..0x1F: R193. -/
  | rdRsvd18to1F (a : Addr)
  /-- WR_STATUS, address 0x00: R102. -/
  | wrStatus (d : Byte)
  /-- WR_RXDATA, address 0x01: R104. -/
  | wrRxdata (d : Byte)
  /-- WR_COUNT, address 0x02: R106. -/
  | wrCount (d : Byte)
  /-- WR_CAPACITY, address 0x03: R108. -/
  | wrCapacity (d : Byte)
  /-- WR_CTRL, address 0x04: R191. -/
  | wrCtrl (d : Byte)
  /-- WR_CMD, address 0x05: R111. -/
  | wrCmd (d : Byte)
  /-- WR_FLAGS, address 0x06: R151. -/
  | wrFlags (d : Byte)
  /-- WR_FAST_RATIO, address 0x08: R153. -/
  | wrFastRatio (d : Byte)
  /-- WR_MED_RATIO, address 0x09: R155. -/
  | wrMedRatio (d : Byte)
  /-- WR_SLOW_RATIO, address 0x0A: R157. -/
  | wrSlowRatio (d : Byte)
  /-- WR_FAST_DIV, address 0x0C: R159. -/
  | wrFastDiv (d : Byte)
  /-- WR_MED_DIV, address 0x0D: R161. -/
  | wrMedDiv (d : Byte)
  /-- WR_SLOW_DIV, address 0x0E: R163. -/
  | wrSlowDiv (d : Byte)
  /-- WR_TICK0, address 0x10: R165. -/
  | wrTick0 (d : Byte)
  /-- WR_TICK1, address 0x11: R167. -/
  | wrTick1 (d : Byte)
  /-- WR_TICK2, address 0x12: R169. -/
  | wrTick2 (d : Byte)
  /-- WR_TICK3, address 0x13: R171. -/
  | wrTick3 (d : Byte)
  /-- WR_RSVD, address 0x07: R194. -/
  | wrRsvd07 (d : Byte)
  /-- WR_RSVD, address 0x0B: R194. -/
  | wrRsvd0B (d : Byte)
  /-- WR_RSVD, address 0x0F: R194. -/
  | wrRsvd0F (d : Byte)
  /-- WR_RSVD, addresses 0x14..0x17: R194. -/
  | wrRsvd14to17 (a : Addr) (d : Byte)
  /-- WR_RSVD, addresses 0x18..0x1F: R194. -/
  | wrRsvd18to1F (a : Addr) (d : Byte)
  /-- PUSH, word 0x8000 | b: R100. -/
  | push (b : Byte)
  /-- TICK, word 0xC000: R140. -/
  | tick
deriving DecidableEq, Repr

end Sys2Proof
end

