-- ==== Sys2Proof/WellFormed.lean ====
section
/-! DEFINITION. Which terms of Instr are events of the block. -/

namespace Sys2Proof

/-- The address of a row of several reserved addresses lies in that row's group (30_encoding.md R76); every other
term is an event as it stands: "every value legal" for data, no operand otherwise (R75, R78). -/
def Instr.wellFormed : Instr → Bool
  | .rdStatus => true
  | .rdRxdata => true
  | .rdCount => true
  | .rdCapacity => true
  | .rdCtrl => true
  | .rdCmd => true
  | .rdFlags => true
  | .rdFastRatio => true
  | .rdMedRatio => true
  | .rdSlowRatio => true
  | .rdFastDiv => true
  | .rdMedDiv => true
  | .rdSlowDiv => true
  | .rdTick0 => true
  | .rdTick1 => true
  | .rdTick2 => true
  | .rdTick3 => true
  | .rdRsvd07 => true
  | .rdRsvd0B => true
  | .rdRsvd0F => true
  | .rdRsvd14to17 a => decide (0x14 ≤ a.toNat ∧ a.toNat ≤ 0x17)
  | .rdRsvd18to1F a => decide (0x18 ≤ a.toNat ∧ a.toNat ≤ 0x1F)
  | .wrStatus _ => true
  | .wrRxdata _ => true
  | .wrCount _ => true
  | .wrCapacity _ => true
  | .wrCtrl _ => true
  | .wrCmd _ => true
  | .wrFlags _ => true
  | .wrFastRatio _ => true
  | .wrMedRatio _ => true
  | .wrSlowRatio _ => true
  | .wrFastDiv _ => true
  | .wrMedDiv _ => true
  | .wrSlowDiv _ => true
  | .wrTick0 _ => true
  | .wrTick1 _ => true
  | .wrTick2 _ => true
  | .wrTick3 _ => true
  | .wrRsvd07 _ => true
  | .wrRsvd0B _ => true
  | .wrRsvd0F _ => true
  | .wrRsvd14to17 a _ => decide (0x14 ≤ a.toNat ∧ a.toNat ≤ 0x17)
  | .wrRsvd18to1F a _ => decide (0x18 ≤ a.toNat ∧ a.toNat ≤ 0x1F)
  | .push _ => true
  | .tick => true

end Sys2Proof
end

