-- ==== Sys2Proof/Decode.lean ====
section
/-! DEFINITION. Event words and events (30_encoding.md): the fields, the decoder, the encoder. -/

namespace Sys2Proof

/-! The fields of an event word (R70, R75). -/

/-- KIND, bits 15:14. -/
def kindOf (w : EventWord) : BitVec 2 := w.extractLsb' 14 2
/-- RSV, bit 13. -/
def rsvOf (w : EventWord) : BitVec 1 := w.extractLsb' 13 1
/-- ADDR, bits 12:8. -/
def addrOf (w : EventWord) : Addr := w.extractLsb' 8 5
/-- DATA, bits 7:0. -/
def dataOf (w : EventWord) : Byte := w.extractLsb' 0 8

/-- The values of KIND (R70). -/
def kindRead : BitVec 2 := 0b00
def kindWrite : BitVec 2 := 0b01
def kindPush : BitVec 2 := 0b10
def kindTick : BitVec 2 := 0b11

/-- The word with the given KIND, ADDR and DATA and with RSV = 0 (R70). -/
def eventWord (kind : BitVec 2) (a : Addr) (d : Byte) : EventWord := kind ++ 0#1 ++ a ++ d

/-- Why a word spells no event: the four kinds of illegal word of R79, tested in the order of R77. -/
inductive DecodeError where
  /-- RSV = 1. -/
  | reservedBitSet
  /-- An RD word with DATA != 0. -/
  | readCarriesData
  /-- A PUSH word with ADDR != 0. -/
  | pushCarriesAddress
  /-- A TICK word with ADDR != 0 or DATA != 0. -/
  | tickCarriesOperand
deriving DecidableEq, Repr

/-- RD(a) of R77: the read event of the register at `a` (R76). Every address has one (R78). -/
def readEvent (a : Addr) : Instr :=
  match a.toNat with
  | 0x00 => .rdStatus
  | 0x01 => .rdRxdata
  | 0x02 => .rdCount
  | 0x03 => .rdCapacity
  | 0x04 => .rdCtrl
  | 0x05 => .rdCmd
  | 0x06 => .rdFlags
  | 0x07 => .rdRsvd07
  | 0x08 => .rdFastRatio
  | 0x09 => .rdMedRatio
  | 0x0A => .rdSlowRatio
  | 0x0B => .rdRsvd0B
  | 0x0C => .rdFastDiv
  | 0x0D => .rdMedDiv
  | 0x0E => .rdSlowDiv
  | 0x0F => .rdRsvd0F
  | 0x10 => .rdTick0
  | 0x11 => .rdTick1
  | 0x12 => .rdTick2
  | 0x13 => .rdTick3
  | n => if n ≤ 0x17 then .rdRsvd14to17 a else .rdRsvd18to1F a

/-- WR(a, d) of R77: the write event of the register at `a` (R76). Every address has one (R78). -/
def writeEvent (a : Addr) (d : Byte) : Instr :=
  match a.toNat with
  | 0x00 => .wrStatus d
  | 0x01 => .wrRxdata d
  | 0x02 => .wrCount d
  | 0x03 => .wrCapacity d
  | 0x04 => .wrCtrl d
  | 0x05 => .wrCmd d
  | 0x06 => .wrFlags d
  | 0x07 => .wrRsvd07 d
  | 0x08 => .wrFastRatio d
  | 0x09 => .wrMedRatio d
  | 0x0A => .wrSlowRatio d
  | 0x0B => .wrRsvd0B d
  | 0x0C => .wrFastDiv d
  | 0x0D => .wrMedDiv d
  | 0x0E => .wrSlowDiv d
  | 0x0F => .wrRsvd0F d
  | 0x10 => .wrTick0 d
  | 0x11 => .wrTick1 d
  | 0x12 => .wrTick2 d
  | 0x13 => .wrTick3 d
  | n => if n ≤ 0x17 then .wrRsvd14to17 a d else .wrRsvd18to1F a d

/-- The decode procedure of R77, total on all 65,536 words. -/
def decode (w : EventWord) : Except DecodeError Instr :=
  if rsvOf w = 1 then .error .reservedBitSet
  else if kindOf w = kindRead then
    if dataOf w ≠ 0 then .error .readCarriesData else .ok (readEvent (addrOf w))
  else if kindOf w = kindWrite then .ok (writeEvent (addrOf w) (dataOf w))
  else if kindOf w = kindPush then
    if addrOf w ≠ 0 then .error .pushCarriesAddress else .ok (.push (dataOf w))
  else
    if addrOf w ≠ 0 ∨ dataOf w ≠ 0 then .error .tickCarriesOperand else .ok .tick

/-- The word of an event (R71..R74, R76). -/
def encode : Instr → EventWord
  | .rdStatus => eventWord kindRead 0x00 0
  | .rdRxdata => eventWord kindRead 0x01 0
  | .rdCount => eventWord kindRead 0x02 0
  | .rdCapacity => eventWord kindRead 0x03 0
  | .rdCtrl => eventWord kindRead 0x04 0
  | .rdCmd => eventWord kindRead 0x05 0
  | .rdFlags => eventWord kindRead 0x06 0
  | .rdFastRatio => eventWord kindRead 0x08 0
  | .rdMedRatio => eventWord kindRead 0x09 0
  | .rdSlowRatio => eventWord kindRead 0x0A 0
  | .rdFastDiv => eventWord kindRead 0x0C 0
  | .rdMedDiv => eventWord kindRead 0x0D 0
  | .rdSlowDiv => eventWord kindRead 0x0E 0
  | .rdTick0 => eventWord kindRead 0x10 0
  | .rdTick1 => eventWord kindRead 0x11 0
  | .rdTick2 => eventWord kindRead 0x12 0
  | .rdTick3 => eventWord kindRead 0x13 0
  | .rdRsvd07 => eventWord kindRead 0x07 0
  | .rdRsvd0B => eventWord kindRead 0x0B 0
  | .rdRsvd0F => eventWord kindRead 0x0F 0
  | .rdRsvd14to17 a => eventWord kindRead a 0
  | .rdRsvd18to1F a => eventWord kindRead a 0
  | .wrStatus d => eventWord kindWrite 0x00 d
  | .wrRxdata d => eventWord kindWrite 0x01 d
  | .wrCount d => eventWord kindWrite 0x02 d
  | .wrCapacity d => eventWord kindWrite 0x03 d
  | .wrCtrl d => eventWord kindWrite 0x04 d
  | .wrCmd d => eventWord kindWrite 0x05 d
  | .wrFlags d => eventWord kindWrite 0x06 d
  | .wrFastRatio d => eventWord kindWrite 0x08 d
  | .wrMedRatio d => eventWord kindWrite 0x09 d
  | .wrSlowRatio d => eventWord kindWrite 0x0A d
  | .wrFastDiv d => eventWord kindWrite 0x0C d
  | .wrMedDiv d => eventWord kindWrite 0x0D d
  | .wrSlowDiv d => eventWord kindWrite 0x0E d
  | .wrTick0 d => eventWord kindWrite 0x10 d
  | .wrTick1 d => eventWord kindWrite 0x11 d
  | .wrTick2 d => eventWord kindWrite 0x12 d
  | .wrTick3 d => eventWord kindWrite 0x13 d
  | .wrRsvd07 d => eventWord kindWrite 0x07 d
  | .wrRsvd0B d => eventWord kindWrite 0x0B d
  | .wrRsvd0F d => eventWord kindWrite 0x0F d
  | .wrRsvd14to17 a d => eventWord kindWrite a d
  | .wrRsvd18to1F a d => eventWord kindWrite a d
  | .push b => eventWord kindPush 0 b
  | .tick => eventWord kindTick 0 0

/-- The instruction the decoder reads from the `nbits` low bits of `w`. An event word is 16 bits and one unit: it has
no byte order, because no bus carries it (R70, log 16). -/
def decodeTableWord (nbits w : Nat) : Option Instr :=
  (decode (BitVec.ofNat 16 (w % 2 ^ nbits))).toOption

end Sys2Proof
end

