-- ==== Sys2Proof/Machine/State.lean ====
section
/-! DEFINITION. The state of the block (10_state.md R20), of its senders (R35, R38, R40) and of the model's own
bookkeeping, and the state after reset (70_reset_and_hazards.md R241). -/

namespace Sys2Proof.Machine

/-- The FIFO (R20, R21..R25). -/
structure Fifo where
  /-- `CAP`, the instance parameter (00_scope.md R8): no event writes it (log 1). -/
  cap : Nat
  /-- The array `x`: the entries PUSH has written, addresses strictly rising; an entry not listed holds what
  `Config.unwrittenByte` says (R21, log 2, log 3). -/
  x : List Host.Cell
  /-- The read index (R23). -/
  rd_idx : Byte
  /-- The write index (R24). -/
  wr_idx : Byte
  /-- The number of unread bytes (R25). -/
  count : Byte
  /-- The model's own: which unspecified contents `x` has, one more after every reset cycle (log 2). -/
  era : Nat
deriving DecidableEq, Repr

/-- The tick source (R20, R28..R30, R32, R33). -/
structure TickSource where
  /-- The tick counter (R28). -/
  tick_cnt : Count
  /-- The snapshot of it that a TICK0 read takes (R33). -/
  tick_snap : Count
  /-- The fast, medium and slow sub-dividers (R29). -/
  div_f : Byte
  div_m : Byte
  div_s : Byte
  /-- The fast, medium and slow ratios (R30). -/
  ratio_f : Byte
  ratio_m : Byte
  ratio_s : Byte
  /-- The fast, medium and slow period flags (R32). -/
  f_due : Bool
  m_due : Bool
  s_due : Bool
deriving DecidableEq, Repr

/-- The control bits (R34). -/
structure Ctrl where
  rx_en : Bool
  tick_en : Bool
deriving DecidableEq, Repr

/-- A synchronizer chain of SYNC_STAGES = 2 flip-flops (R35, 00_scope.md R8): `first` samples the other domain. -/
structure Sync where
  first : Bool
  second : Bool
deriving DecidableEq, Repr

/-- One toggle handshake: the push port (R38, R39) or the tick port (R40, R41). -/
structure Port where
  /-- The sender's request toggle: `push_req` or `tick_req`. -/
  req : Bool
  /-- Its synchronizer in the core domain (R35). -/
  reqSync : Sync
  /-- The block's acknowledge toggle: `push_ack` or `tick_ack` (R35). -/
  ack : Bool
  /-- Its synchronizer in the sender's domain (R35). -/
  ackSync : Sync
deriving DecidableEq, Repr

/-- The consumer's wires in one `clk` cycle (R37). -/
structure Bus where
  re : Bool
  we : Bool
  addr : Addr
  wdata : Byte
deriving DecidableEq, Repr

/-- What an agent outside does next (00_scope.md R16; log 7). Only a `clk` cycle carries `rst`; the senders' edges do not
(DESIGN CHOICE, log 17). -/
inductive Input where
  /-- One `clk` cycle, with the level of `rst` (R36) and the consumer's wires (R37). -/
  | clk (rst : Bool) (bus : Bus)
  /-- One edge of the producer's clock; with a byte, the producer starts a push of it there (R38). -/
  | producerClk (start : Option Byte)
  /-- One edge of the tick generator's clock; with true, the generator signals one tick there (R40). -/
  | tickGenClk (start : Bool)
deriving DecidableEq, Repr

/-- Which step of 20_memory.md R60 comes next: the model's own field (log 6). -/
inductive Phase where
  /-- The cycle is over: the next input, or the next cycle's bus event. -/
  | cycle
  /-- The PUSH step. -/
  | push
  /-- The TICK step. -/
  | tick
deriving DecidableEq, Repr

structure State where
  fifo : Fifo
  tick : TickSource
  ctrl : Ctrl
  /-- The push port's handshake (R35, R38, R39). -/
  pushPort : Port
  /-- The byte the producer holds on `push_data` (R38). -/
  push_data : Byte
  /-- The tick port's handshake (R35, R40, R41). -/
  tickPort : Port
  /-- `rdata` of the latest bus read (00_scope.md R11, R37; log 12). -/
  bus_rdata : Byte
  /-- The model's own: the event word a port has spelled, to be performed by the next step (log 5). -/
  event : Option EventWord
  /-- The model's own: where in the cycle the block is (log 6). -/
  phase : Phase
  /-- The model's own: what the agents outside do from here on (log 7). -/
  inputs : List Input
deriving DecidableEq, Repr

/-- Why the machine stops: the block itself raises no exception (60_exceptions.md R210). -/
inductive Fault where
  /-- An access to the FIFO entry `i` >= CAP, which the array does not have (R21). Raised by the FIFO read and write
  of RD_RXDATA and PUSH; no state that meets R26 raises it. Safe: the model stops. -/
  | noSuchEntry (i : Nat)
deriving DecidableEq, Repr

/-- Why the model gives a step no meaning. -/
inductive Refusal where
  /-- An instruction with no meaning yet: raised by `exec` only. Safe. -/
  | notModelled (mnemonic : String)
  /-- The event word spells no event (30_encoding.md R79, 60_exceptions.md R212): raised by `step`. Safe. -/
  | illegalWord (why : DecodeError)
  /-- The consumer asserts both `bus_re` and `bus_we` (R37, 30_encoding.md R79): raised by `step`. Safe. -/
  | bothStrobes
  /-- The producer inverts `push_req` before it has seen the acknowledge (R38): raised by `step`. Safe (log 10). -/
  | pushUnacknowledged
  /-- The tick generator inverts `tick_req` before it has seen the acknowledge (R40): raised by `step`. Safe (log 10). -/
  | tickUnacknowledged
deriving DecidableEq, Repr

/-- What one event or one step of the machine answers. -/
abbrev Outcome := Host.Outcome State Fault Refusal

/-- A synchronizer and a handshake after reset: every toggle and flop 0 (R241, R242). -/
def Sync.reset : Sync := { first := false, second := false }
def Port.reset : Port := { req := false, reqSync := Sync.reset, ack := false, ackSync := Sync.reset }

/-- The FIFO after reset (R241), for a capacity and for the unspecified contents of its array. -/
def Fifo.reset (cap era : Nat) : Fifo := { cap := cap, x := [], rd_idx := 0, wr_idx := 0, count := 0, era := era }

/-- The tick source after reset (R241). -/
def TickSource.reset : TickSource :=
  { tick_cnt := 0, tick_snap := 0, div_f := 0, div_m := 0, div_s := 0,
    ratio_f := Config.ratioFReset, ratio_m := Config.ratioMReset, ratio_s := Config.ratioSReset,
    f_due := false, m_due := false, s_due := false }

/-- The state after reset (R241, R242) of an instance with capacity `cap`. -/
def State.resetWith (cap era : Nat) (inputs : List Input) : State :=
  { fifo := Fifo.reset cap era, tick := TickSource.reset, ctrl := { rx_en := true, tick_en := true },
    pushPort := Port.reset, push_data := 0, tickPort := Port.reset, bus_rdata := 0,
    event := none, phase := .cycle, inputs := inputs }

/-- The machine right after reset, with no input given yet. -/
def State.reset : State := State.resetWith Config.CAP 0 []

end Sys2Proof.Machine
end

