-- ==== Sys2Proof/Machine/Operands.lean ====
section
/-! DEFINITION. The operand forms: what a write's data bits select, and the byte each register reads as
(10_state.md R42..R49). -/

namespace Sys2Proof.Machine

/-- Bits 0, 1 and 2 of written data: RX_EN, FLUSH or FAST_DUE; TICK_EN or MED_DUE; SLOW_DUE (R44, R45, R46). -/
def dataBit0 (d : Byte) : Bool := d.getLsbD 0
def dataBit1 (d : Byte) : Bool := d.getLsbD 1
def dataBit2 (d : Byte) : Bool := d.getLsbD 2

/-- A byte whose bits 2, 1, 0 are the given ones and whose other bits read 0 (R42: reserved bits read 0). -/
def lowBits (b2 b1 b0 : Bool) : Byte := 0#5 ++ BitVec.ofBool b2 ++ BitVec.ofBool b1 ++ BitVec.ofBool b0

/-- What COUNT and CAPACITY read as (40_fifo.md R105, R107). -/
def Fifo.countByte (f : Fifo) : Byte := f.count
def Fifo.capacityByte (f : Fifo) : Byte := BitVec.ofNat 8 f.cap

/-- What CTRL reads as: the bits 0 six times, then tick_en, rx_en (42_control.md R190). -/
def Ctrl.byte (c : Ctrl) : Byte := lowBits false c.tick_en c.rx_en

/-- The enables a CTRL write of `d` sets (42_control.md R191). -/
def ctrlOfByte (d : Byte) : Ctrl := { rx_en := dataBit0 d, tick_en := dataBit1 d }

/-- Bytes 0 to 3 of the tick counter or its snapshot, least significant first (10_state.md R48, 20_memory.md R53). -/
def countByte0 (c : Count) : Byte := c.extractLsb' 0 8
def countByte1 (c : Count) : Byte := c.extractLsb' 8 8
def countByte2 (c : Count) : Byte := c.extractLsb' 16 8
def countByte3 (c : Count) : Byte := c.extractLsb' 24 8

end Sys2Proof.Machine
end

