-- ==== Sys2Proof/Machine/Flags.lean ====
section
/-! DEFINITION. AVAIL, the rollover of a sub-divider, and the setting and clearing of the period flags. -/

namespace Sys2Proof.Machine

/-- AVAIL, computed from `count` (10_state.md R31). -/
def Fifo.avail (f : Fifo) : Bool := f.count != 0

/-- What STATUS reads as: AVAIL in bit 0, the rest 0 (40_fifo.md R101). -/
def Fifo.statusByte (f : Fifo) : Byte := lowBits false false f.avail

/-- A sub-divider reaches its ratio at its next count: `zext_9(div) + 1 >= zext_9(ratio)` (41_tick.md R140). -/
def reaches (div ratio : Byte) : Bool := decide (ratio.zeroExtend 9 ≤ div.zeroExtend 9 + 1)

/-- The sub-divider after that count: 0 on a rollover, one more otherwise (41_tick.md R140). -/
def nextDiv (div ratio : Byte) : Byte := if reaches div ratio then 0 else div + 1

/-- The rollovers of the next TICK. The medium level counts fast rollovers and the slow level medium ones
(41_tick.md R140, 90_conflicts.md C2). -/
def TickSource.fastRolls (t : TickSource) : Bool := reaches t.div_f t.ratio_f
def TickSource.medRolls (t : TickSource) : Bool := t.fastRolls && reaches t.div_m t.ratio_m
def TickSource.slowRolls (t : TickSource) : Bool := t.medRolls && reaches t.div_s t.ratio_s

/-- What FLAGS reads as (41_tick.md R150). -/
def TickSource.flagsByte (t : TickSource) : Byte := lowBits t.s_due t.m_due t.f_due

/-- A FLAGS write of `d`: each flag whose bit is 1 is cleared, the others keep their value (41_tick.md R151). -/
def TickSource.clearFlags (t : TickSource) (d : Byte) : TickSource :=
  { t with
    f_due := if dataBit0 d then false else t.f_due
    m_due := if dataBit1 d then false else t.m_due
    s_due := if dataBit2 d then false else t.s_due }

end Sys2Proof.Machine
end

