-- ==== Sys2Proof/Machine/Ops.lean ====
section
/-! DEFINITION. The shared operations: the FIFO array, the FIFO, the tick source, the handshakes. The block has no
exception and so no exception entry or return (60_exceptions.md R210, R216, R217); every event either takes effect
completely or, when held, not at all (R216). -/

namespace Sys2Proof.Machine

/-! The FIFO array as cells in one canonical form: addresses strictly rising. -/

/-- The byte written last at `i`; none where nothing has been written (log 3). -/
def Memory.read : List Host.Cell → Nat → Option Byte
  | [], _ => none
  | (a, v) :: m, i => if a = i then some v else Memory.read m i

/-- `x[i] <- v` (00_scope.md R11). -/
def Memory.write : List Host.Cell → Nat → Byte → List Host.Cell
  | [], i, v => [(i, v)]
  | (a, w) :: m, i, v =>
    if i < a then (i, v) :: (a, w) :: m
    else if i = a then (i, v) :: m
    else (a, w) :: Memory.write m i v

/-- The canonical form. An unlisted address reads as no value, so no entry can equal it. -/
abbrev Memory.wf (m : List Host.Cell) : Prop := m.Pairwise (fun c d => c.1 < d.1)

/-! The FIFO. -/

/-- `count = CAP` (40_fifo.md R100). -/
def Fifo.full (f : Fifo) : Bool := decide (f.count.toNat = f.cap)

/-- `(i + 1) mod CAP` (10_state.md R23, R24). -/
def Fifo.succIdx (f : Fifo) (i : Byte) : Byte := BitVec.ofNat 8 ((i.toNat + 1) % f.cap)

/-- What entry `i` holds: the byte PUSH wrote, or the unspecified one (R21). -/
def Fifo.entry (f : Fifo) (i : Nat) : Byte := (Memory.read f.x i).getD (Config.unwrittenByte f.era i)

/-- `MemRead(i, 1)` (00_scope.md R11): none where the array has no entry `i` (R21). -/
def Fifo.readEntry (f : Fifo) (i : Byte) : Option Byte :=
  if i.toNat < f.cap then some (f.entry i.toNat) else none

/-- `MemWrite(i, 1, v)` (00_scope.md R11): none where the array has no entry `i` (R21). -/
def Fifo.writeEntry (f : Fifo) (i v : Byte) : Option Fifo :=
  if i.toNat < f.cap then some { f with x := Memory.write f.x i.toNat v } else none

/-- The indices and the count after a byte has been stored (40_fifo.md R100). -/
def Fifo.advanceWrite (f : Fifo) : Fifo := { f with wr_idx := f.succIdx f.wr_idx, count := f.count + 1 }

/-- The indices and the count after a byte has been popped (40_fifo.md R103). -/
def Fifo.advanceRead (f : Fifo) : Fifo := { f with rd_idx := f.succIdx f.rd_idx, count := f.count - 1 }

/-- The flush: all three fields cleared, the array left as it is (40_fifo.md R111). -/
def Fifo.flush (f : Fifo) : Fifo := { f with rd_idx := 0, wr_idx := 0, count := 0 }

/-! The tick source. -/

/-- One firing: the counter, and the chain from fast to slow, all rollovers together (41_tick.md R140,
60_exceptions.md R215). -/
def TickSource.fire (t : TickSource) : TickSource :=
  { t with
    tick_cnt := t.tick_cnt + 1
    div_f := nextDiv t.div_f t.ratio_f
    f_due := t.f_due || t.fastRolls
    div_m := if t.fastRolls then nextDiv t.div_m t.ratio_m else t.div_m
    m_due := t.m_due || t.medRolls
    div_s := if t.medRolls then nextDiv t.div_s t.ratio_s else t.div_s
    s_due := t.s_due || t.slowRolls }

/-- `tick_snap <- tick_cnt` (41_tick.md R164). -/
def TickSource.latch (t : TickSource) : TickSource := { t with tick_snap := t.tick_cnt }

/-! The handshakes. -/

/-- A request is pending in the core: the synchronized request differs from the acknowledge (10_state.md R39, R41). -/
def Port.pending (p : Port) : Bool := p.reqSync.second != p.ack

/-- The block acknowledges: it inverts its toggle (10_state.md R39, R41; log 14). -/
def Port.acknowledge (p : Port) : Port := { p with ack := !p.ack }

/-- A `clk` edge: the request moves one flop on (10_state.md R35). -/
def Port.coreEdge (p : Port) : Port := { p with reqSync := { first := p.req, second := p.reqSync.first } }

/-- An edge of the sender's clock: the acknowledge moves one flop on (10_state.md R35). -/
def Port.senderEdge (p : Port) : Port := { p with ackSync := { first := p.ack, second := p.ackSync.first } }

/-- The sender has seen its last request acknowledged, so it may start another (10_state.md R38, R40; log 10). -/
def Port.free (p : Port) : Bool := p.ackSync.second == p.req

/-- The sender starts a request: it inverts its toggle (10_state.md R38, R40). -/
def Port.start (p : Port) : Port := { p with req := !p.req }

/-- A port with one request outstanding and synchronized, its earlier one acknowledged and seen (log 5). -/
def Port.requested (p : Port) : Port :=
  { req := !p.ack, reqSync := { first := !p.ack, second := !p.ack }, ack := p.ack,
    ackSync := { first := p.ack, second := p.ack } }

/-! The state. -/

/-- `rdata <- v` (00_scope.md R11). -/
def State.setRdata (s : State) (v : Byte) : State := { s with bus_rdata := v }
def State.setFifo (s : State) (f : Fifo) : State := { s with fifo := f }
def State.setTick (s : State) (t : TickSource) : State := { s with tick := t }
def State.setCtrl (s : State) (c : Ctrl) : State := { s with ctrl := c }
/-- The push handshake is acknowledged (10_state.md R39). -/
def State.ackPush (s : State) : State := { s with pushPort := s.pushPort.acknowledge }
/-- The tick handshake is acknowledged (10_state.md R41). -/
def State.ackTick (s : State) : State := { s with tickPort := s.tickPort.acknowledge }

/-! How an event ends. -/

/-- A bus read: it returns `v` and changes nothing else (20_memory.md R51, R56). -/
def readReturns (v : Byte) (s : State) : Outcome := .next (s.setRdata v)

/-- A write the block ignores: no state changes (10_state.md R42, R49). -/
def ignoreWrite (s : State) : Outcome := .next s

/-- `hold`: the event has no step, the state does not change, and the sender keeps its request (00_scope.md R11;
log 8). -/
def hold (s : State) : Outcome := .next s

/-- The FIFO with `b` at `wr_idx` and the write side moved on, or the fault of an entry that does not exist. -/
def storeByte (b : Byte) (s : State) : Outcome :=
  match s.fifo.writeEntry s.fifo.wr_idx b with
  | some f => .next (s.setFifo f.advanceWrite).ackPush
  | none => .fault (.noSuchEntry s.fifo.wr_idx.toNat)

/-- `rdata` is the entry at `rd_idx` and the read side moves on, or the fault of an entry that does not exist. -/
def takeByte (s : State) : Outcome :=
  match s.fifo.readEntry s.fifo.rd_idx with
  | some v => .next ((s.setFifo s.fifo.advanceRead).setRdata v)
  | none => .fault (.noSuchEntry s.fifo.rd_idx.toNat)

end Sys2Proof.Machine
end

