-- ==== Sys2Proof/Machine/Cycle.lean ====
section
/-! DEFINITION. What happens between events: the clock cycle with its three steps, the ports, reset
(20_memory.md R60, 10_state.md R36..R41, 70_reset_and_hazards.md R240..R242). -/

namespace Sys2Proof.Machine

/-- A cycle with `rst` = 1 (70_reset_and_hazards.md R240, R241): no event; every field takes its reset value, and both
senders drop their requests (R242). The parameter CAP stays, the contents of `x` are unspecified anew (log 2, log 13). -/
def State.resetCycle (s : State) : State := State.resetWith s.fifo.cap (s.fifo.era + 1) s.inputs

/-- The `clk` edge that begins a cycle: both request synchronizers shift (10_state.md R35). -/
def State.clkEdge (s : State) : State :=
  { s with pushPort := s.pushPort.coreEdge, tickPort := s.tickPort.coreEdge }

/-- The word that a bus cycle spells (30_encoding.md R71, R72), if it has a bus event (10_state.md R37). -/
def Bus.word (b : Bus) : Option EventWord :=
  if b.re then some (eventWord kindRead b.addr 0)
  else if b.we then some (eventWord kindWrite b.addr b.wdata)
  else none

/-- One `clk` cycle up to its bus event: reset, or the clock edge and step 1 of 20_memory.md R60. Both strobes at once
is a protocol violation (10_state.md R37). -/
def State.beginCycle (rst : Bool) (b : Bus) (s : State) : Outcome :=
  if rst then .next s.resetCycle
  else if b.re && b.we then .refused .bothStrobes
  else .next { s.clkEdge with event := b.word, phase := .push }

/-- Step 2 of 20_memory.md R60: a pending push becomes the PUSH event when `rx_en` = 1, and stays pending otherwise
(10_state.md R39). -/
def State.pushStep (s : State) : State :=
  { s with
    phase := .tick
    event := if s.pushPort.pending && s.ctrl.rx_en then some (eventWord kindPush 0 s.push_data) else none }

/-- Step 3 of 20_memory.md R60: a pending tick becomes the TICK event when `tick_en` = 1, and stays pending otherwise
(10_state.md R41). -/
def State.tickStep (s : State) : State :=
  { s with
    phase := .cycle
    event := if s.tickPort.pending && s.ctrl.tick_en then some (eventWord kindTick 0 0) else none }

/-- An edge of the producer's clock. A push started there puts its byte on `push_data` and inverts `push_req`, which
the producer may do only when it has seen its last push acknowledged (10_state.md R38, log 10). The edge does not look
at `rst`: when the producer leaves reset (R242) is not stated, and here it may start a push between two cycles with
`rst` = 1 or right after the last (DESIGN CHOICE, log 17). -/
def State.producerEdge (start : Option Byte) (s : State) : Outcome :=
  match start with
  | none => .next { s with pushPort := s.pushPort.senderEdge }
  | some b =>
    if s.pushPort.free then .next { s with pushPort := s.pushPort.senderEdge.start, push_data := b }
    else .refused .pushUnacknowledged

/-- An edge of the tick generator's clock (10_state.md R40, log 10), which does not look at `rst` either (DESIGN CHOICE,
log 17). -/
def State.tickGenEdge (start : Bool) (s : State) : Outcome :=
  if start then
    if s.tickPort.free then .next { s with tickPort := s.tickPort.senderEdge.start }
    else .refused .tickUnacknowledged
  else .next { s with tickPort := s.tickPort.senderEdge }

/-- The wires of a cycle in which the consumer issues nothing (10_state.md R37). -/
def Bus.idle : Bus := { re := false, we := false, addr := 0, wdata := 0 }

/-- Between two cycles: the next input; with none left, `clk` runs on with idle wires (60_exceptions.md R226, log 7). -/
def State.takeInput (s : State) : Outcome :=
  match s.inputs with
  | [] => s.beginCycle false Bus.idle
  | .clk rst bus :: rest => { s with inputs := rest }.beginCycle rst bus
  | .producerClk start :: rest => { s with inputs := rest }.producerEdge start
  | .tickGenClk start :: rest => { s with inputs := rest }.tickGenEdge start

/-- What the block does when no event word waits: the next part of the cycle (20_memory.md R60). -/
def State.advance (s : State) : Outcome :=
  match s.phase with
  | .cycle => s.takeInput
  | .push => .next s.pushStep
  | .tick => .next s.tickStep

/-- What an event word does: the event it spells, or the refusal of a word that spells none (30_encoding.md R77, R79). -/
def perform (run : Instr → State → Outcome) (w : EventWord) (s : State) : Outcome :=
  match decode w with
  | .ok i => run i s
  | .error why => .refused (.illegalWord why)

/-- `w` presented to the decoder. A PUSH or TICK word stands for the acceptance of a pending request (30_encoding.md
R73, R74), so the port it comes through has that request, synchronized (log 5). -/
def State.present (s : State) (w : EventWord) : State :=
  match decode w with
  | .ok (.push b) => { s with event := some w, pushPort := s.pushPort.requested, push_data := b }
  | .ok .tick => { s with event := some w, tickPort := s.tickPort.requested }
  | _ => { s with event := some w }

end Sys2Proof.Machine
end

