-- ==== Sys2Proof/Machine/Control.lean ====
section
/-! DEFINITION. The control register's events, the read of CMD, and the reserved addresses (42_control.md). -/

namespace Sys2Proof.Machine

/-- RD_CTRL (R190). -/
def execRdCtrl (s : State) : Outcome := readReturns s.ctrl.byte s

/-- WR_CTRL (R191). -/
def execWrCtrl (d : Byte) (s : State) : Outcome := .next (s.setCtrl (ctrlOfByte d))

/-- RD_CMD (R192): 0x00; the read does not flush. -/
def execRdCmd (s : State) : Outcome := readReturns 0 s

/-- RD_RSVD (R193): 0x00, at each row of reserved addresses. -/
def execRdRsvd07 (s : State) : Outcome := readReturns 0 s
def execRdRsvd0B (s : State) : Outcome := readReturns 0 s
def execRdRsvd0F (s : State) : Outcome := readReturns 0 s
def execRdRsvd14to17 (_a : Addr) (s : State) : Outcome := readReturns 0 s
def execRdRsvd18to1F (_a : Addr) (s : State) : Outcome := readReturns 0 s

/-- WR_RSVD (R194): ignored, at each row of reserved addresses. -/
def execWrRsvd07 (_d : Byte) (s : State) : Outcome := ignoreWrite s
def execWrRsvd0B (_d : Byte) (s : State) : Outcome := ignoreWrite s
def execWrRsvd0F (_d : Byte) (s : State) : Outcome := ignoreWrite s
def execWrRsvd14to17 (_a : Addr) (_d : Byte) (s : State) : Outcome := ignoreWrite s
def execWrRsvd18to1F (_a : Addr) (_d : Byte) (s : State) : Outcome := ignoreWrite s

end Sys2Proof.Machine
end

