-- ==== Sys2Proof/Machine/Fifo.lean ====
section
/-! DEFINITION. The receive ring buffer's events (40_fifo.md). -/

namespace Sys2Proof.Machine

/-- PUSH (R100): held while RX_EN is 0; at full the byte is discarded and the push still acknowledged; otherwise it
is stored. -/
def execPush (b : Byte) (s : State) : Outcome :=
  if s.ctrl.rx_en = false then hold s
  else if s.fifo.full then .next s.ackPush
  else storeByte b s

/-- RD_STATUS (R101): AVAIL. -/
def execRdStatus (s : State) : Outcome := readReturns s.fifo.statusByte s

/-- WR_STATUS (R102): ignored. -/
def execWrStatus (_d : Byte) (s : State) : Outcome := ignoreWrite s

/-- RD_RXDATA (R103): 0x00 and no change when empty, the oldest byte and a pop otherwise. -/
def execRdRxdata (s : State) : Outcome :=
  if s.fifo.count = 0 then readReturns 0 s else takeByte s

/-- WR_RXDATA (R104): ignored; the bus cannot push. -/
def execWrRxdata (_d : Byte) (s : State) : Outcome := ignoreWrite s

/-- RD_COUNT (R105): the number of unread bytes. -/
def execRdCount (s : State) : Outcome := readReturns s.fifo.countByte s

/-- WR_COUNT (R106): ignored. -/
def execWrCount (_d : Byte) (s : State) : Outcome := ignoreWrite s

/-- RD_CAPACITY (R107): CAP. -/
def execRdCapacity (s : State) : Outcome := readReturns s.fifo.capacityByte s

/-- WR_CAPACITY (R108): ignored. -/
def execWrCapacity (_d : Byte) (s : State) : Outcome := ignoreWrite s

/-- WR_CMD (R111): with bit 0 set, the flush, which also sets RX_EN; otherwise nothing. -/
def execWrCmd (d : Byte) (s : State) : Outcome :=
  if dataBit0 d then .next ((s.setFifo s.fifo.flush).setCtrl { s.ctrl with rx_en := true }) else .next s

end Sys2Proof.Machine
end

