-- ==== Sys2Proof/Machine/Tick.lean ====
section
/-! DEFINITION. The tick source's events (41_tick.md). -/

namespace Sys2Proof.Machine

/-- TICK (R140): held while TICK_EN is 0; otherwise one firing of the tick source, acknowledged. -/
def execTick (s : State) : Outcome :=
  if s.ctrl.tick_en = false then hold s else .next (s.setTick s.tick.fire).ackTick

/-- RD_FLAGS (R150): the period flags; the read does not clear them. -/
def execRdFlags (s : State) : Outcome := readReturns s.tick.flagsByte s

/-- WR_FLAGS (R151): write 1 to clear. -/
def execWrFlags (d : Byte) (s : State) : Outcome := .next (s.setTick (s.tick.clearFlags d))

/-- RD_FAST_RATIO (R152). -/
def execRdFastRatio (s : State) : Outcome := readReturns s.tick.ratio_f s

/-- WR_FAST_RATIO (R153): the divider is not reset (R145). -/
def execWrFastRatio (d : Byte) (s : State) : Outcome := .next (s.setTick { s.tick with ratio_f := d })

/-- RD_MED_RATIO (R154). -/
def execRdMedRatio (s : State) : Outcome := readReturns s.tick.ratio_m s

/-- WR_MED_RATIO (R155): the divider is not reset (R145). -/
def execWrMedRatio (d : Byte) (s : State) : Outcome := .next (s.setTick { s.tick with ratio_m := d })

/-- RD_SLOW_RATIO (R156). -/
def execRdSlowRatio (s : State) : Outcome := readReturns s.tick.ratio_s s

/-- WR_SLOW_RATIO (R157): the divider is not reset (R145). -/
def execWrSlowRatio (d : Byte) (s : State) : Outcome := .next (s.setTick { s.tick with ratio_s := d })

/-- RD_FAST_DIV (R158). -/
def execRdFastDiv (s : State) : Outcome := readReturns s.tick.div_f s

/-- WR_FAST_DIV (R159): ignored. -/
def execWrFastDiv (_d : Byte) (s : State) : Outcome := ignoreWrite s

/-- RD_MED_DIV (R160). -/
def execRdMedDiv (s : State) : Outcome := readReturns s.tick.div_m s

/-- WR_MED_DIV (R161): ignored. -/
def execWrMedDiv (_d : Byte) (s : State) : Outcome := ignoreWrite s

/-- RD_SLOW_DIV (R162). -/
def execRdSlowDiv (s : State) : Outcome := readReturns s.tick.div_s s

/-- WR_SLOW_DIV (R163): ignored. -/
def execWrSlowDiv (_d : Byte) (s : State) : Outcome := ignoreWrite s

/-- RD_TICK0 (R164): latches the counter and returns its low byte. -/
def execRdTick0 (s : State) : Outcome := readReturns (countByte0 s.tick.tick_cnt) (s.setTick s.tick.latch)

/-- WR_TICK0 (R165): ignored; it does not latch. -/
def execWrTick0 (_d : Byte) (s : State) : Outcome := ignoreWrite s

/-- RD_TICK1 (R166): bits 15:8 of the snapshot. -/
def execRdTick1 (s : State) : Outcome := readReturns (countByte1 s.tick.tick_snap) s

/-- WR_TICK1 (R167): ignored. -/
def execWrTick1 (_d : Byte) (s : State) : Outcome := ignoreWrite s

/-- RD_TICK2 (R168): bits 23:16 of the snapshot. -/
def execRdTick2 (s : State) : Outcome := readReturns (countByte2 s.tick.tick_snap) s

/-- WR_TICK2 (R169): ignored. -/
def execWrTick2 (_d : Byte) (s : State) : Outcome := ignoreWrite s

/-- RD_TICK3 (R170): bits 31:24 of the snapshot. -/
def execRdTick3 (s : State) : Outcome := readReturns (countByte3 s.tick.tick_snap) s

/-- WR_TICK3 (R171): ignored. -/
def execWrTick3 (_d : Byte) (s : State) : Outcome := ignoreWrite s

end Sys2Proof.Machine
end

