-- ==== Sys2Proof/Machine/Dispatch.lean ====
section
/-! DEFINITION. Each event to its meaning. -/

namespace Sys2Proof.Machine

def exec (i : Instr) (s : State) : Host.Outcome State Fault Refusal :=
  match i with
  | .rdStatus => Sys2Proof.Machine.execRdStatus s
  | .rdRxdata => Sys2Proof.Machine.execRdRxdata s
  | .rdCount => Sys2Proof.Machine.execRdCount s
  | .rdCapacity => Sys2Proof.Machine.execRdCapacity s
  | .rdCtrl => Sys2Proof.Machine.execRdCtrl s
  | .rdCmd => Sys2Proof.Machine.execRdCmd s
  | .rdFlags => Sys2Proof.Machine.execRdFlags s
  | .rdFastRatio => Sys2Proof.Machine.execRdFastRatio s
  | .rdMedRatio => Sys2Proof.Machine.execRdMedRatio s
  | .rdSlowRatio => Sys2Proof.Machine.execRdSlowRatio s
  | .rdFastDiv => Sys2Proof.Machine.execRdFastDiv s
  | .rdMedDiv => Sys2Proof.Machine.execRdMedDiv s
  | .rdSlowDiv => Sys2Proof.Machine.execRdSlowDiv s
  | .rdTick0 => Sys2Proof.Machine.execRdTick0 s
  | .rdTick1 => Sys2Proof.Machine.execRdTick1 s
  | .rdTick2 => Sys2Proof.Machine.execRdTick2 s
  | .rdTick3 => Sys2Proof.Machine.execRdTick3 s
  | .rdRsvd07 => Sys2Proof.Machine.execRdRsvd07 s
  | .rdRsvd0B => Sys2Proof.Machine.execRdRsvd0B s
  | .rdRsvd0F => Sys2Proof.Machine.execRdRsvd0F s
  | .rdRsvd14to17 a => Sys2Proof.Machine.execRdRsvd14to17 a s
  | .rdRsvd18to1F a => Sys2Proof.Machine.execRdRsvd18to1F a s
  | .wrStatus d => Sys2Proof.Machine.execWrStatus d s
  | .wrRxdata d => Sys2Proof.Machine.execWrRxdata d s
  | .wrCount d => Sys2Proof.Machine.execWrCount d s
  | .wrCapacity d => Sys2Proof.Machine.execWrCapacity d s
  | .wrCtrl d => Sys2Proof.Machine.execWrCtrl d s
  | .wrCmd d => Sys2Proof.Machine.execWrCmd d s
  | .wrFlags d => Sys2Proof.Machine.execWrFlags d s
  | .wrFastRatio d => Sys2Proof.Machine.execWrFastRatio d s
  | .wrMedRatio d => Sys2Proof.Machine.execWrMedRatio d s
  | .wrSlowRatio d => Sys2Proof.Machine.execWrSlowRatio d s
  | .wrFastDiv d => Sys2Proof.Machine.execWrFastDiv d s
  | .wrMedDiv d => Sys2Proof.Machine.execWrMedDiv d s
  | .wrSlowDiv d => Sys2Proof.Machine.execWrSlowDiv d s
  | .wrTick0 d => Sys2Proof.Machine.execWrTick0 d s
  | .wrTick1 d => Sys2Proof.Machine.execWrTick1 d s
  | .wrTick2 d => Sys2Proof.Machine.execWrTick2 d s
  | .wrTick3 d => Sys2Proof.Machine.execWrTick3 d s
  | .wrRsvd07 d => Sys2Proof.Machine.execWrRsvd07 d s
  | .wrRsvd0B d => Sys2Proof.Machine.execWrRsvd0B d s
  | .wrRsvd0F d => Sys2Proof.Machine.execWrRsvd0F d s
  | .wrRsvd14to17 a d => Sys2Proof.Machine.execWrRsvd14to17 a d s
  | .wrRsvd18to1F a d => Sys2Proof.Machine.execWrRsvd18to1F a d s
  | .push b => Sys2Proof.Machine.execPush b s
  | .tick => Sys2Proof.Machine.execTick s

end Sys2Proof.Machine
end

