-- ==== Sys2Proof/Machine/Step.lean ====
section
/-! DEFINITION. One step of the machine. -/

namespace Sys2Proof.Machine

/-- One step: the event that waits is performed (20_memory.md R61), or, with none waiting, the cycle goes on (R60). -/
def step (s : State) : Outcome :=
  match s.event with
  | some w => perform exec w { s with event := none }
  | none => s.advance

/-- The state in which the next step runs the event word made of the `nbits` low bits of `w` (log 5). -/
def State.withFetchWord (s : State) (nbits w : Nat) : State := s.present (BitVec.ofNat 16 (w % 2 ^ nbits))

end Sys2Proof.Machine
end

