-- ==== Sys2Proof/Safety.lean ====
section
/-! DEFINITION. The terms the statements use: the invariants, the FIFO as a queue, sequences of events, one cycle as
20_memory.md R60 gives it. -/

namespace Sys2Proof.Machine

/-! Invariants. -/

/-- The FIFO's fields fit together (10_state.md R8's range of CAP, R23..R26), the array is in canonical form and lies
below CAP, and every unread entry has been written since reset (R21). -/
structure Fifo.Inv (f : Fifo) : Prop where
  cap_pos : 1 ≤ f.cap
  cap_le : f.cap ≤ 255
  count_le : f.count.toNat ≤ f.cap
  rd_lt : f.rd_idx.toNat < f.cap
  wr_lt : f.wr_idx.toNat < f.cap
  wr_eq : f.wr_idx.toNat = (f.rd_idx.toNat + f.count.toNat) % f.cap
  canonical : Memory.wf f.x
  inside : ∀ c ∈ f.x, c.1 < f.cap
  written : ∀ k < f.count.toNat, (Memory.read f.x ((f.rd_idx.toNat + k) % f.cap)).isSome = true

/-- Each divider stays in 0..254 (41_tick.md R143). -/
structure TickSource.Inv (t : TickSource) : Prop where
  fast_le : t.div_f.toNat ≤ 254
  med_le : t.div_m.toNat ≤ 254
  slow_le : t.div_s.toNat ≤ 254

/-- What holds of the block after every event. -/
structure State.Inv (s : State) : Prop where
  fifo : s.fifo.Inv
  tick : s.tick.Inv

/-- The toggles of a handshake in the order in which a change travels: request, its synchronizer, acknowledge, its
synchronizer, back to the sender. -/
def Port.toggles (p : Port) : List Bool :=
  [p.req, p.reqSync.first, p.reqSync.second, p.ack, p.ackSync.first, p.ackSync.second]

/-- How many neighbours of a list differ. -/
def changes : List Bool → Nat
  | a :: b :: l => (if a = b then 0 else 1) + changes (b :: l)
  | _ => 0

/-- A sender has at most one request outstanding (10_state.md R38, R40): at most one change is under way. -/
def Port.Inv (p : Port) : Prop := changes p.toggles ≤ 1

/-- The handshakes are sound, and a PUSH or TICK word that waits stands for a request that is pending (30_encoding.md
R73, R74). -/
structure State.Handshakes (s : State) : Prop where
  push : s.pushPort.Inv
  tick : s.tickPort.Inv
  pushWord : ∀ w b, s.event = some w → decode w = .ok (.push b) → s.pushPort.pending = true ∧ s.push_data = b
  tickWord : ∀ w, s.event = some w → decode w = .ok .tick → s.tickPort.pending = true

/-! The FIFO's abstract content. -/

/-- `Q`, oldest first (10_state.md R27). -/
def Fifo.queue (f : Fifo) : List Byte :=
  (List.range f.count.toNat).map fun k => f.entry ((f.rd_idx.toNat + k) % f.cap)

/-! Sequences of events (00_scope.md R17, 20_memory.md R63). -/

/-- The byte an event pops (40_fifo.md R109: an RXDATA read that finds `count > 0`); `t` is the state after it. -/
def poppedBy (i : Instr) (s t : State) : List Byte :=
  if i = .rdRxdata ∧ s.fifo.count ≠ 0 then [t.bus_rdata] else []

/-- The byte an event stores: a PUSH neither held nor at full (40_fifo.md R100). -/
def storedBy : Instr → State → List Byte
  | .push b, s => if s.ctrl.rx_en = true ∧ s.fifo.count.toNat ≠ s.fifo.cap then [b] else []
  | _, _ => []

/-- The state after a sequence of events, with the bytes popped and the bytes stored on the way; none if one of them
stops. -/
def eventRun : State → List Instr → Option (State × List Byte × List Byte)
  | s, [] => some (s, [], [])
  | s, i :: is =>
    match exec i s with
    | .next t => (eventRun t is).map fun r => (r.1, poppedBy i s t ++ r.2.1, storedBy i s ++ r.2.2)
    | _ => none

/-- How many TICK events of a sequence are accepted, that is, not held (41_tick.md R140). -/
def acceptedTicks : State → List Instr → Nat
  | _, [] => 0
  | s, i :: is =>
    match exec i s with
    | .next t => (if i = .tick ∧ s.ctrl.tick_en = true then 1 else 0) + acceptedTicks t is
    | _ => 0

/-- The tick source with its three flags cleared. -/
def State.flagsCleared (s : State) : State :=
  { s with tick := { s.tick with f_due := false, m_due := false, s_due := false } }

/-- Which flags (fast, medium, slow) a TICK sets in `s`: the flags after it, when all are clear before it. -/
def setByTick (s : State) : Bool × Bool × Bool :=
  match exec .tick s.flagsCleared with
  | .next t => (t.tick.f_due, t.tick.m_due, t.tick.s_due)
  | _ => (false, false, false)

/-- How often each flag (fast, medium, slow) is set in a sequence of events, a set of a flag that is already 1 counted
too (41_tick.md R142, 90_conflicts.md C3). -/
def timesSet : State → List Instr → Nat × Nat × Nat
  | _, [] => (0, 0, 0)
  | s, i :: is =>
    match exec i s with
    | .next t =>
      let now := if i = .tick then setByTick s else (false, false, false)
      (now.1.toNat + (timesSet t is).1, now.2.1.toNat + (timesSet t is).2.1, now.2.2.toNat + (timesSet t is).2.2)
    | _ => (0, 0, 0)

/-- No event of a sequence writes a ratio: the premise of 41_tick.md R141 and R142. -/
def keepsRatios (is : List Instr) : Prop :=
  ∀ i ∈ is, ∀ d, i ≠ .wrFastRatio d ∧ i ≠ .wrMedRatio d ∧ i ≠ .wrSlowRatio d

/-! Several steps, and one cycle as 20_memory.md R60 gives it. -/

/-- The second part runs in the state the first part leaves; a stop stays. -/
def andThen (o : Outcome) (f : State → Outcome) : Outcome :=
  match o with
  | .next s => f s
  | .fault r => .fault r
  | .refused r => .refused r

/-- `k` steps of the machine, stopping at the first fault or refusal. -/
def steps : Nat → State → Outcome
  | 0, s => .next s
  | k + 1, s => andThen (step s) (steps k)

/-- Step 1: the bus event, if the consumer issues one. -/
def cycleBus (w : Option EventWord) (s : State) : Outcome :=
  match w with
  | some w => perform exec w s
  | none => .next s

/-- Step 2: the PUSH event, if a push is pending and `rx_en` = 1. -/
def cyclePush (s : State) : Outcome :=
  if s.pushPort.pending && s.ctrl.rx_en then exec (.push s.push_data) s else .next s

/-- Step 3: the TICK event, if a tick is pending and `tick_en` = 1. -/
def cycleTick (s : State) : Outcome :=
  if s.tickPort.pending && s.ctrl.tick_en then exec .tick s else .next s

/-- The three steps in R60's order, each in the state the step before it left; `phase` is the model's own mark of the
step that comes next. -/
def wholeCycle (w : Option EventWord) (s : State) : Outcome :=
  andThen (cycleBus w { s with phase := .push }) fun s1 =>
    andThen (cyclePush { s1 with phase := .tick }) fun s2 =>
      cycleTick { s2 with phase := .cycle }

end Sys2Proof.Machine
end

