-- ==== Sys2Proof/Certificates/Slice0/Obligations.lean ====
section
/-! DEFINITION. The statements about the model. Numbers `R<n>` are the spec's rules; `log <n>` is
notes/assumptions/<n>.md. -/

open Sys2Proof Sys2Proof.Machine

/-! # Event words -/

/-- Words of every format written out from 30_encoding.md R76 and 95_test_vectors.md §2.1 decode to their events. -/
def Obligations.WordsOfTheSpecDecode : Prop :=
  decode 0x0000 = .ok .rdStatus ∧ decode 0x1300 = .ok .rdTick3 ∧ decode 0x0700 = .ok .rdRsvd07 ∧
    decode 0x1F00 = .ok (.rdRsvd18to1F 0x1F) ∧ decode 0x4403 = .ok (.wrCtrl 0x03) ∧
    decode 0x4501 = .ok (.wrCmd 0x01) ∧ decode 0x5FFF = .ok (.wrRsvd18to1F 0x1F 0xFF) ∧
    decode 0x8056 = .ok (.push 0x56) ∧ decode 0xC000 = .ok .tick

/-- Decoding the word of a well-formed event gives the event back, for every event and every operand
(30_encoding.md R70..R77). -/
def Obligations.DecodeOfEncodeIsTheEvent : Prop :=
  ∀ i : Instr, i.wellFormed = true → decode (encode i) = .ok i

/-- A legal word is the one spelling of a well-formed event (30_encoding.md R76, R77). -/
def Obligations.EncodeOfDecodeIsTheWord : Prop :=
  ∀ (w : EventWord) (i : Instr), decode w = .ok i → i.wellFormed = true ∧ encode i = w

/-- R79: the illegal words are exactly the four kinds; a step refuses them, and refuses a cycle with both strobes. -/
def Obligations.IllegalWordsAreRefused : Prop :=
  (∀ w : EventWord, (∃ e, decode w = .error e) ↔
    (w.getLsbD 13 = true ∨
      (w.extractLsb' 14 2 = 0b00#2 ∧ w.extractLsb' 0 8 ≠ 0) ∨
      (w.extractLsb' 14 2 = 0b10#2 ∧ w.extractLsb' 8 5 ≠ 0) ∨
      (w.extractLsb' 14 2 = 0b11#2 ∧ (w.extractLsb' 8 5 ≠ 0 ∨ w.extractLsb' 0 8 ≠ 0)))) ∧
  (∀ (s : State) (w : EventWord) (e : DecodeError), s.event = some w → decode w = .error e →
    step s = .refused (.illegalWord e)) ∧
  (∀ (s : State) (b : Bus) (rest : List Input), s.event = none → s.phase = .cycle →
    s.inputs = .clk false b :: rest → b.re = true → b.we = true → step s = .refused .bothStrobes)

/-- R71 and R72: the bus cycle that a word stands for, and the word's value. -/
def Obligations.BusCyclesSpellTheirWords : Prop :=
  ∀ (s : State) (b : Bus) (rest : List Input), s.event = none → s.phase = .cycle → s.inputs = .clk false b :: rest →
    (b.re = true → b.we = false →
      step s = .next { s.clkEdge with inputs := rest, phase := .push, event := some (b.addr.zeroExtend 16 <<< 8) }) ∧
    (b.re = false → b.we = true →
      step s = .next
        { s.clkEdge with
          inputs := rest
          phase := .push
          event := some (0x4000 ||| b.addr.zeroExtend 16 <<< 8 ||| b.wdata.zeroExtend 16) }) ∧
    (b.re = false → b.we = false →
      step s = .next { s.clkEdge with inputs := rest, phase := .push, event := none })

/-! # Steps -/

/-- A step with an event waiting is that event (log 5). -/
def Obligations.StepPerformsTheWaitingEvent : Prop :=
  ∀ (s : State) (w : EventWord) (i : Instr), s.event = some w → decode w = .ok i →
    step s = exec i { s with event := none }

/-- A word presented with withFetchWord is the event of the very next step, on the block as it stands, with its
request pending when it is a PUSH or a TICK (log 5). -/
def Obligations.FetchWordIsPerformedNext : Prop :=
  ∀ (s : State) (w : EventWord) (i : Instr), decode w = .ok i →
    ∃ s' : State, step (s.withFetchWord 16 w.toNat) = exec i s' ∧
      s'.fifo = s.fifo ∧ s'.tick = s.tick ∧ s'.ctrl = s.ctrl ∧ s'.bus_rdata = s.bus_rdata ∧
      s'.pushPort.ack = s.pushPort.ack ∧ s'.tickPort.ack = s.tickPort.ack ∧
      s'.event = none ∧ s'.phase = s.phase ∧ s'.inputs = s.inputs ∧
      (∀ b, i = .push b → s'.pushPort.reqSync.second ≠ s'.pushPort.ack ∧ s'.push_data = b) ∧
      ((∀ b, i ≠ .push b) → s'.pushPort = s.pushPort ∧ s'.push_data = s.push_data) ∧
      (i = .tick → s'.tickPort.reqSync.second ≠ s'.tickPort.ack) ∧
      (i ≠ .tick → s'.tickPort = s.tickPort)

/-- R60: a cycle without reset or bus violation is its bus event, then PUSH if a push is pending and enabled in the
state after it, then TICK if a tick is pending and enabled in the state after that. The same of a cycle that `clk` runs
with no input left, which has idle wires (the model's choice, log 7). That a cycle takes 3 to 6 steps, 3 to 5 without a
bus event, is the model's own choice (log 6). -/
def Obligations.CycleIsBusThenPushThenTick : Prop :=
  ∀ s : State, s.event = none → s.phase = .cycle →
    (∀ (b : Bus) (rest : List Input), s.inputs = .clk false b :: rest → (b.re && b.we) = false →
      ∃ n, 3 ≤ n ∧ n ≤ 6 ∧ steps n s = wholeCycle b.word { s.clkEdge with inputs := rest }) ∧
    (s.inputs = [] → ∃ n, 3 ≤ n ∧ n ≤ 5 ∧ steps n s = wholeCycle none s.clkEdge)

/-- R39: a pending push with RX_EN = 1 becomes the PUSH event of `push_data`, which inverts `push_ack`; with
RX_EN = 0 the request stays pending; no bus cycle spells a PUSH. -/
def Obligations.PendingPushBecomesTheEvent : Prop :=
  (∀ s : State, s.event = none → s.phase = .push →
    step s = .next
      { s with
        phase := .tick
        event :=
          if s.pushPort.reqSync.second ≠ s.pushPort.ack ∧ s.ctrl.rx_en = true
          then some (0x8000 ||| s.push_data.zeroExtend 16) else none }) ∧
  (∀ (s t : State) (b : Byte), s.ctrl.rx_en = true → exec (.push b) s = .next t →
    t.pushPort = { s.pushPort with ack := !s.pushPort.ack }) ∧
  (∀ (bus : Bus) (w : EventWord) (b : Byte), bus.word = some w → decode w ≠ .ok (.push b))

/-- R41: a pending tick with TICK_EN = 1 becomes the TICK event, which inverts `tick_ack`; with TICK_EN = 0 the
request stays pending; no bus cycle spells a TICK. -/
def Obligations.PendingTickBecomesTheEvent : Prop :=
  (∀ s : State, s.event = none → s.phase = .tick →
    step s = .next
      { s with
        phase := .cycle
        event :=
          if s.tickPort.reqSync.second ≠ s.tickPort.ack ∧ s.ctrl.tick_en = true then some 0xC000 else none }) ∧
  (∀ s t : State, s.ctrl.tick_en = true → exec .tick s = .next t →
    t.tickPort = { s.tickPort with ack := !s.tickPort.ack }) ∧
  (∀ (bus : Bus) (w : EventWord), bus.word = some w → decode w ≠ .ok .tick)

/-- A sender starts a request at an edge of its clock when it has seen the last one acknowledged, and is refused
otherwise: R38 and R40 forbid it, the refusal is the model's (log 10). At an edge that starts nothing only its
acknowledge synchronizer moves, one flop on (R35; log 9). That the sender's edge may come at any point between two
cycles, right after one with `rst` = 1 too, is the model's choice (log 7, log 17). -/
def Obligations.SendersStartOneRequestAtATime : Prop :=
  ∀ (s : State) (rest : List Input), s.event = none → s.phase = .cycle →
    (∀ b, s.inputs = .producerClk (some b) :: rest →
      (s.pushPort.ackSync.second = s.pushPort.req →
        step s = .next
          { s with
            inputs := rest
            push_data := b
            pushPort :=
              { s.pushPort with
                req := !s.pushPort.req
                ackSync := { first := s.pushPort.ack, second := s.pushPort.ackSync.first } } }) ∧
      (s.pushPort.ackSync.second ≠ s.pushPort.req → step s = .refused .pushUnacknowledged)) ∧
    (s.inputs = .tickGenClk true :: rest →
      (s.tickPort.ackSync.second = s.tickPort.req →
        step s = .next
          { s with
            inputs := rest
            tickPort :=
              { s.tickPort with
                req := !s.tickPort.req
                ackSync := { first := s.tickPort.ack, second := s.tickPort.ackSync.first } } }) ∧
      (s.tickPort.ackSync.second ≠ s.tickPort.req → step s = .refused .tickUnacknowledged)) ∧
    (s.inputs = .producerClk none :: rest →
      step s = .next
        { s with
          inputs := rest
          pushPort :=
            { s.pushPort with ackSync := { first := s.pushPort.ack, second := s.pushPort.ackSync.first } } }) ∧
    (s.inputs = .tickGenClk false :: rest →
      step s = .next
        { s with
          inputs := rest
          tickPort :=
            { s.tickPort with ackSync := { first := s.tickPort.ack, second := s.tickPort.ackSync.first } } })

/-- A push started at a quiet port is spelled in the PUSH step of the second cycle after it, with idle wires and ticks
masked (R35, 70_reset_and_hazards.md R262; the exact latency is the model's, log 9). -/
def Obligations.StartedPushArrivesInTheSecondCycle : Prop :=
  ∀ s : State, s.event = none → s.phase = .cycle → s.inputs = [] → s.ctrl.rx_en = true → s.ctrl.tick_en = false →
    s.pushPort.req ≠ s.pushPort.ack → s.pushPort.reqSync.first = s.pushPort.ack →
    s.pushPort.reqSync.second = s.pushPort.ack →
    ∃ t : State, steps 5 s = .next t ∧
      t.event = some (0x8000 ||| s.push_data.zeroExtend 16) ∧ t.fifo = s.fifo ∧ t.tick = s.tick

/-- R240 and R241: a cycle with `rst` = 1 ignores the bus and gives every field its reset value; CAP stays. That the
one `clk` cycle also resets what the senders' clocks move, the request toggles (R242) and the acknowledge synchronizers,
is the model's choice (log 13): R242 asks SYNC_STAGES + 1 cycles of each clock. -/
def Obligations.ResetCycleResetsEveryField : Prop :=
  ∀ (s : State) (b : Bus) (rest : List Input), s.event = none → s.phase = .cycle → s.inputs = .clk true b :: rest →
    ∃ t : State, step s = .next t ∧ t.fifo.cap = s.fifo.cap ∧
      t.fifo.rd_idx = 0 ∧ t.fifo.wr_idx = 0 ∧ t.fifo.count = 0 ∧
      t.tick.tick_cnt = 0 ∧ t.tick.tick_snap = 0 ∧ t.tick.div_f = 0 ∧ t.tick.div_m = 0 ∧ t.tick.div_s = 0 ∧
      t.tick.ratio_f = 5 ∧ t.tick.ratio_m = 10 ∧ t.tick.ratio_s = 10 ∧
      t.tick.f_due = false ∧ t.tick.m_due = false ∧ t.tick.s_due = false ∧
      t.ctrl.rx_en = true ∧ t.ctrl.tick_en = true ∧ t.bus_rdata = 0 ∧
      t.pushPort.ack = false ∧ t.tickPort.ack = false ∧ t.pushPort.req = false ∧ t.tickPort.req = false ∧
      t.pushPort.reqSync = ⟨false, false⟩ ∧ t.pushPort.ackSync = ⟨false, false⟩ ∧
      t.tickPort.reqSync = ⟨false, false⟩ ∧ t.tickPort.ackSync = ⟨false, false⟩ ∧
      t.event = none ∧ t.phase = .cycle ∧ t.inputs = rest

/-- R241: the values of `State.reset`, where the spec gives them. -/
def Obligations.ResetStateHasTheSpecsValues : Prop :=
  State.reset.fifo.rd_idx = 0 ∧ State.reset.fifo.wr_idx = 0 ∧ State.reset.fifo.count = 0 ∧
    State.reset.tick.tick_cnt = 0 ∧ State.reset.tick.tick_snap = 0 ∧
    State.reset.tick.div_f = 0 ∧ State.reset.tick.div_m = 0 ∧ State.reset.tick.div_s = 0 ∧
    State.reset.tick.ratio_f = 5 ∧ State.reset.tick.ratio_m = 10 ∧ State.reset.tick.ratio_s = 10 ∧
    State.reset.tick.f_due = false ∧ State.reset.tick.m_due = false ∧ State.reset.tick.s_due = false ∧
    State.reset.ctrl.rx_en = true ∧ State.reset.ctrl.tick_en = true ∧
    State.reset.pushPort = ⟨false, ⟨false, false⟩, false, ⟨false, false⟩⟩ ∧
    State.reset.tickPort = ⟨false, ⟨false, false⟩, false, ⟨false, false⟩⟩ ∧
    1 ≤ State.reset.fifo.cap ∧ State.reset.fifo.cap ≤ 255

/-- R245: a FLUSH right after reset changes nothing. -/
def Obligations.FlushAfterResetChangesNothing : Prop :=
  exec (.wrCmd 0x01) State.reset = .next State.reset

/-! # The receive ring buffer -/

/-- R100: a PUSH is held, discarded, or stored at `wr_idx`; every other byte of the array reads as before. That a held
PUSH answers a next state, the same one, is the model's reading of R11's "no step" (log 8). -/
def Obligations.PushHoldsDiscardsOrStores : Prop :=
  ∀ (b : Byte) (s : State),
    encode (.push b) = 0x8000 ||| b.zeroExtend 16 ∧
    (s.ctrl.rx_en = false → exec (.push b) s = .next s) ∧
    (s.ctrl.rx_en = true → s.fifo.count.toNat = s.fifo.cap →
      exec (.push b) s = .next { s with pushPort := { s.pushPort with ack := !s.pushPort.ack } }) ∧
    (s.ctrl.rx_en = true → s.fifo.count.toNat ≠ s.fifo.cap → s.fifo.wr_idx.toNat < s.fifo.cap →
      exec (.push b) s = .next
        { s with
          fifo :=
            { s.fifo with
              x := Memory.write s.fifo.x s.fifo.wr_idx.toNat b
              wr_idx := BitVec.ofNat 8 ((s.fifo.wr_idx.toNat + 1) % s.fifo.cap)
              count := s.fifo.count + 1 }
          pushPort := { s.pushPort with ack := !s.pushPort.ack } }) ∧
    (∀ a, Memory.read (Memory.write s.fifo.x s.fifo.wr_idx.toNat b) a =
      if a = s.fifo.wr_idx.toNat then some b else Memory.read s.fifo.x a)

/-- R103: an RXDATA read of an empty FIFO returns 0x00 and changes nothing else; otherwise it returns the entry at
`rd_idx`, which is the byte a PUSH wrote there, and pops it. In a shared cycle it sees the state from before the push:
on an empty FIFO it returns 0x00, and a pushed byte stays in the FIFO. -/
def Obligations.RxdataReadPopsTheOldestByte : Prop :=
  ∀ s : State,
    encode .rdRxdata = 0x0100 ∧
    (s.fifo.count = 0 → exec .rdRxdata s = .next { s with bus_rdata := 0 }) ∧
    (s.fifo.count ≠ 0 → s.fifo.rd_idx.toNat < s.fifo.cap →
      exec .rdRxdata s = .next
        { s with
          fifo :=
            { s.fifo with
              rd_idx := BitVec.ofNat 8 ((s.fifo.rd_idx.toNat + 1) % s.fifo.cap)
              count := s.fifo.count - 1 }
          bus_rdata := s.fifo.entry s.fifo.rd_idx.toNat }) ∧
    (∀ v, Memory.read s.fifo.x s.fifo.rd_idx.toNat = some v → s.fifo.entry s.fifo.rd_idx.toNat = v) ∧
    (∀ u, s.event = none → s.fifo.count = 0 → wholeCycle (some 0x0100) s = .next u →
      u.bus_rdata = 0 ∧
      (1 ≤ s.fifo.cap → s.ctrl.rx_en = true → s.pushPort.reqSync.second ≠ s.pushPort.ack →
        u.fifo.count = 1 ∧ Memory.read u.fifo.x s.fifo.wr_idx.toNat = some s.push_data))

/-- The array has the entries 0..CAP-1 only (R21): a store or a pop at an index beyond them, in a state that R26 rules
out, stops with the model's fault (log 4). -/
def Obligations.IndexBeyondTheArrayFaults : Prop :=
  ∀ (b : Byte) (s : State),
    (s.ctrl.rx_en = true → s.fifo.count.toNat ≠ s.fifo.cap → s.fifo.cap ≤ s.fifo.wr_idx.toNat →
      exec (.push b) s = .fault (.noSuchEntry s.fifo.wr_idx.toNat)) ∧
    (s.fifo.count ≠ 0 → s.fifo.cap ≤ s.fifo.rd_idx.toNat →
      exec .rdRxdata s = .fault (.noSuchEntry s.fifo.rd_idx.toNat))

/-- R101: STATUS reads 0x01 when bytes wait and 0x00 when none does; nothing else changes; in a shared cycle it sees
`count` from before the push. -/
def Obligations.StatusReadsAvail : Prop :=
  ∀ s : State,
    encode .rdStatus = 0x0000 ∧
    exec .rdStatus s = .next { s with bus_rdata := if s.fifo.count = 0 then 0x00 else 0x01 } ∧
    (∀ u, s.event = none → wholeCycle (some 0x0000) s = .next u →
      u.bus_rdata = if s.fifo.count = 0 then 0x00 else 0x01)

/-- R105: COUNT reads the number of unread bytes, in 0..CAP. -/
def Obligations.CountReadsTheUnreadBytes : Prop :=
  ∀ s : State,
    encode .rdCount = 0x0200 ∧ exec .rdCount s = .next { s with bus_rdata := s.fifo.count } ∧
    s.fifo.count.toNat = s.fifo.queue.length ∧
    (s.fifo.count = 0 ↔ s.fifo.queue = []) ∧
    (s.fifo.Inv → s.fifo.count.toNat ≤ s.fifo.cap)

/-- R107: CAPACITY reads CAP, a constant of the instance in 1..255, kept by every step, reset included. -/
def Obligations.CapacityIsConstant : Prop :=
  (∀ s : State,
    encode .rdCapacity = 0x0300 ∧ exec .rdCapacity s = .next { s with bus_rdata := BitVec.ofNat 8 s.fifo.cap }) ∧
  (∀ s t : State, step s = .next t → t.fifo.cap = s.fifo.cap) ∧
  1 ≤ State.reset.fifo.cap ∧ State.reset.fifo.cap ≤ 255

/-- R102, R104, R106, R108, R159, R161, R163, R165, R167, R169, R171, R194: a write to a read-only register or to a
reserved address changes nothing. -/
def Obligations.IgnoredWritesChangeNothing : Prop :=
  ∀ (d : Byte) (a : Addr) (s : State),
    (encode (.wrStatus d) = 0x4000 ||| d.zeroExtend 16 ∧ exec (.wrStatus d) s = .next s) ∧
    (encode (.wrRxdata d) = 0x4100 ||| d.zeroExtend 16 ∧ exec (.wrRxdata d) s = .next s) ∧
    (encode (.wrCount d) = 0x4200 ||| d.zeroExtend 16 ∧ exec (.wrCount d) s = .next s) ∧
    (encode (.wrCapacity d) = 0x4300 ||| d.zeroExtend 16 ∧ exec (.wrCapacity d) s = .next s) ∧
    (encode (.wrFastDiv d) = 0x4C00 ||| d.zeroExtend 16 ∧ exec (.wrFastDiv d) s = .next s) ∧
    (encode (.wrMedDiv d) = 0x4D00 ||| d.zeroExtend 16 ∧ exec (.wrMedDiv d) s = .next s) ∧
    (encode (.wrSlowDiv d) = 0x4E00 ||| d.zeroExtend 16 ∧ exec (.wrSlowDiv d) s = .next s) ∧
    (encode (.wrTick0 d) = 0x5000 ||| d.zeroExtend 16 ∧ exec (.wrTick0 d) s = .next s) ∧
    (encode (.wrTick1 d) = 0x5100 ||| d.zeroExtend 16 ∧ exec (.wrTick1 d) s = .next s) ∧
    (encode (.wrTick2 d) = 0x5200 ||| d.zeroExtend 16 ∧ exec (.wrTick2 d) s = .next s) ∧
    (encode (.wrTick3 d) = 0x5300 ||| d.zeroExtend 16 ∧ exec (.wrTick3 d) s = .next s) ∧
    (encode (.wrRsvd07 d) = 0x4700 ||| d.zeroExtend 16 ∧ exec (.wrRsvd07 d) s = .next s) ∧
    (encode (.wrRsvd0B d) = 0x4B00 ||| d.zeroExtend 16 ∧ exec (.wrRsvd0B d) s = .next s) ∧
    (encode (.wrRsvd0F d) = 0x4F00 ||| d.zeroExtend 16 ∧ exec (.wrRsvd0F d) s = .next s) ∧
    (encode (.wrRsvd14to17 a d) = 0x4000 ||| a.zeroExtend 16 <<< 8 ||| d.zeroExtend 16 ∧
      exec (.wrRsvd14to17 a d) s = .next s) ∧
    (encode (.wrRsvd18to1F a d) = 0x4000 ||| a.zeroExtend 16 <<< 8 ||| d.zeroExtend 16 ∧
      exec (.wrRsvd18to1F a d) s = .next s)

/-- R192 and R193: CMD and the reserved addresses read 0x00, and nothing else changes. -/
def Obligations.CmdAndReservedReadZero : Prop :=
  ∀ (a : Addr) (s : State),
    (encode .rdCmd = 0x0500 ∧ exec .rdCmd s = .next { s with bus_rdata := 0 }) ∧
    (encode .rdRsvd07 = 0x0700 ∧ exec .rdRsvd07 s = .next { s with bus_rdata := 0 }) ∧
    (encode .rdRsvd0B = 0x0B00 ∧ exec .rdRsvd0B s = .next { s with bus_rdata := 0 }) ∧
    (encode .rdRsvd0F = 0x0F00 ∧ exec .rdRsvd0F s = .next { s with bus_rdata := 0 }) ∧
    (encode (.rdRsvd14to17 a) = a.zeroExtend 16 <<< 8 ∧
      exec (.rdRsvd14to17 a) s = .next { s with bus_rdata := 0 }) ∧
    (encode (.rdRsvd18to1F a) = a.zeroExtend 16 <<< 8 ∧
      exec (.rdRsvd18to1F a) s = .next { s with bus_rdata := 0 })

/-- R111: a CMD write with bit 0 set empties the FIFO, leaves the array and sets RX_EN, whatever they were; with bit 0
clear it changes nothing. A push performed after it is stored at entry 0 and leaves one byte; so is a push pending in
the same cycle, even if RX_EN was 0 before the flush. -/
def Obligations.FlushEmptiesAndEnables : Prop :=
  ∀ (d b : Byte) (s : State),
    encode (.wrCmd d) = 0x4500 ||| d.zeroExtend 16 ∧
    (d.getLsbD 0 = true →
      exec (.wrCmd d) s = .next
        { s with
          fifo := { s.fifo with rd_idx := 0, wr_idx := 0, count := 0 }
          ctrl := { s.ctrl with rx_en := true } }) ∧
    (d.getLsbD 0 = false → exec (.wrCmd d) s = .next s) ∧
    (d.getLsbD 0 = true → 1 ≤ s.fifo.cap → ∀ t, exec (.wrCmd d) s = .next t →
      exec (.push b) t = .next
        { t with
          fifo :=
            { t.fifo with
              x := Memory.write s.fifo.x 0 b, wr_idx := BitVec.ofNat 8 (1 % s.fifo.cap), count := 1 }
          pushPort := { s.pushPort with ack := !s.pushPort.ack } }) ∧
    (d.getLsbD 0 = true → 1 ≤ s.fifo.cap → s.pushPort.reqSync.second ≠ s.pushPort.ack →
      ∃ u, wholeCycle (some (0x4500 ||| d.zeroExtend 16)) s = .next u ∧
        u.fifo =
          { s.fifo with
            x := Memory.write s.fifo.x 0 s.push_data
            rd_idx := 0
            wr_idx := BitVec.ofNat 8 (1 % s.fifo.cap)
            count := 1 } ∧
        u.ctrl = { s.ctrl with rx_en := true } ∧ u.pushPort = { s.pushPort with ack := !s.pushPort.ack })

/-- R27: on the queue of unread bytes a stored PUSH appends, an RXDATA read takes the oldest byte (0x00 when there is
none), a FLUSH empties, and every other event leaves it. -/
def Obligations.EventsActOnTheQueue : Prop :=
  ∀ (i : Instr) (s t : State), s.fifo.Inv → exec i s = .next t →
    s.fifo.queue.length = s.fifo.count.toNat ∧
    match i with
    | .push b =>
      t.fifo.queue =
        if s.ctrl.rx_en = true ∧ s.fifo.queue.length < s.fifo.cap then s.fifo.queue ++ [b] else s.fifo.queue
    | .rdRxdata => t.fifo.queue = s.fifo.queue.tail ∧ t.bus_rdata = s.fifo.queue.headD 0
    | .wrCmd d => t.fifo.queue = if d.getLsbD 0 = true then [] else s.fifo.queue
    | _ => t.fifo.queue = s.fifo.queue

/-- R109: over any sequence of events without a FLUSH, from an empty FIFO, the bytes popped are a prefix of the bytes
stored, in order, and all of them once as many have been popped. -/
def Obligations.BytesComeOutInPushOrder : Prop :=
  ∀ (is : List Instr) (s t : State) (popped stored : List Byte), s.fifo.Inv → s.fifo.count = 0 →
    (∀ d, Instr.wrCmd d ∈ is → d.getLsbD 0 = false) → eventRun s is = some (t, popped, stored) →
    popped <+: stored ∧ (popped.length = stored.length → popped = stored) ∧ stored = popped ++ t.fifo.queue

/-- R110: a PUSH at full leaves the queue; COUNT never exceeds CAP; over any sequence of events the bytes that come out
of RXDATA are among those stored, in order, so no discarded byte does. -/
def Obligations.OverflowDropsTheExcess : Prop :=
  (∀ (b : Byte) (s t : State), s.fifo.count.toNat = s.fifo.cap → exec (.push b) s = .next t →
    t.fifo.queue = s.fifo.queue) ∧
  (∀ (is : List Instr) (s t : State) (popped stored : List Byte), s.fifo.Inv →
    eventRun s is = some (t, popped, stored) →
    t.fifo.count.toNat ≤ t.fifo.cap ∧ popped.Sublist (s.fifo.queue ++ stored))

/-- R21: the unspecified contents of the array are never observed. With other contents of the entries that no PUSH has
written since reset, and with any other bytes listed or not in every entry outside the queue (those that a pop or a FLUSH
left behind among them; log 2), every event answers the same but for the entries outside the queue. -/
def Obligations.UnwrittenEntriesAreNeverObserved : Prop :=
  ∀ (i : Instr) (s t : State) (n : Nat), s.fifo.Inv → exec i s = .next t →
    exec i { s with fifo := { s.fifo with era := n } } = .next { t with fifo := { t.fifo with era := n } } ∧
    ∀ y : List Host.Cell, Memory.wf y → (∀ c ∈ y, c.1 < s.fifo.cap) →
      (∀ k < s.fifo.count.toNat,
        Memory.read y ((s.fifo.rd_idx.toNat + k) % s.fifo.cap) =
          Memory.read s.fifo.x ((s.fifo.rd_idx.toNat + k) % s.fifo.cap)) →
      ∃ z : List Host.Cell,
        exec i { s with fifo := { s.fifo with x := y, era := n } } =
          .next { t with fifo := { t.fifo with x := z, era := n } } ∧
        Memory.wf z ∧ (∀ c ∈ z, c.1 < t.fifo.cap) ∧
        ∀ k < t.fifo.count.toNat,
          Memory.read z ((t.fifo.rd_idx.toNat + k) % t.fifo.cap) =
            Memory.read t.fifo.x ((t.fifo.rd_idx.toNat + k) % t.fifo.cap)

/-- R112 and R65: once bytes wait, they wait until the consumer's own next pop or FLUSH, whatever events come between,
and that pop returns the byte that was oldest. -/
def Obligations.AvailLastsUntilThePop : Prop :=
  ∀ (is : List Instr) (s t : State) (popped stored : List Byte), s.fifo.Inv → s.fifo.count ≠ 0 →
    (∀ i ∈ is, i ≠ .rdRxdata ∧ ∀ d, i = .wrCmd d → d.getLsbD 0 = false) →
    eventRun s is = some (t, popped, stored) →
    t.fifo.count ≠ 0 ∧
      ∃ u, exec .rdRxdata t = .next u ∧ s.fifo.queue.head? = some u.bus_rdata ∧
        u.fifo.count.toNat + 1 = t.fifo.count.toNat

/-! # The tick source -/

/-- R140: a TICK is held while TICK_EN = 0; otherwise it counts and runs the chain as the rule's nested cases say, and
changes nothing else but the acknowledge. That a held TICK answers a next state, the same one, is the model's reading of
R11's "no step" (log 8). -/
def Obligations.TickRunsTheChain : Prop :=
  ∀ s : State,
    encode .tick = 0xC000 ∧
    (s.ctrl.tick_en = false → exec .tick s = .next s) ∧
    (s.ctrl.tick_en = true →
      exec .tick s = .next
        { s with
          tickPort := { s.tickPort with ack := !s.tickPort.ack }
          tick :=
            if s.tick.ratio_f.toNat ≤ s.tick.div_f.toNat + 1 then
              if s.tick.ratio_m.toNat ≤ s.tick.div_m.toNat + 1 then
                if s.tick.ratio_s.toNat ≤ s.tick.div_s.toNat + 1 then
                  { s.tick with
                    tick_cnt := s.tick.tick_cnt + 1, div_f := 0, f_due := true, div_m := 0, m_due := true
                    div_s := 0, s_due := true }
                else
                  { s.tick with
                    tick_cnt := s.tick.tick_cnt + 1, div_f := 0, f_due := true, div_m := 0, m_due := true
                    div_s := s.tick.div_s + 1 }
              else
                { s.tick with
                  tick_cnt := s.tick.tick_cnt + 1, div_f := 0, f_due := true, div_m := s.tick.div_m + 1 }
            else { s.tick with tick_cnt := s.tick.tick_cnt + 1, div_f := s.tick.div_f + 1 } })

/-- R141: with unchanged ratios and from dividers at 0, whatever other events come between and however often ticks are
held, the k-th accepted TICK is a fast, medium or slow rollover exactly when k is a multiple of the product of the ratios
(0 counting as 1); at the reset ratios these are 5, 50 and 500. -/
def Obligations.RolloversAreAtTheMultiples : Prop :=
  (∀ (is : List Instr) (s t : State) (popped stored : List Byte),
    s.tick.div_f = 0 → s.tick.div_m = 0 → s.tick.div_s = 0 → keepsRatios is →
    eventRun s is = some (t, popped, stored) → t.ctrl.tick_en = true →
      (setByTick t).1 = decide ((acceptedTicks s is + 1) % max s.tick.ratio_f.toNat 1 = 0) ∧
      (setByTick t).2.1 =
        decide ((acceptedTicks s is + 1) % (max s.tick.ratio_f.toNat 1 * max s.tick.ratio_m.toNat 1) = 0) ∧
      (setByTick t).2.2 =
        decide ((acceptedTicks s is + 1) %
          (max s.tick.ratio_f.toNat 1 * max s.tick.ratio_m.toNat 1 * max s.tick.ratio_s.toNat 1) = 0)) ∧
  State.reset.tick.div_f = 0 ∧ State.reset.tick.div_m = 0 ∧ State.reset.tick.div_s = 0 ∧
  max State.reset.tick.ratio_f.toNat 1 = 5 ∧
  max State.reset.tick.ratio_f.toNat 1 * max State.reset.tick.ratio_m.toNat 1 = 50 ∧
  max State.reset.tick.ratio_f.toNat 1 * max State.reset.tick.ratio_m.toNat 1 *
    max State.reset.tick.ratio_s.toNat 1 = 500

/-- R142: in a sequence with N accepted TICKs from dividers at 0 and with unchanged ratios, the flags are set
floor(N / Rf), floor(N / (Rf*Rm)) and floor(N / (Rf*Rm*Rs)) times. -/
def Obligations.RolloversAreCountedByDivision : Prop :=
  ∀ (is : List Instr) (s t : State) (popped stored : List Byte),
    s.tick.div_f = 0 → s.tick.div_m = 0 → s.tick.div_s = 0 → keepsRatios is →
    eventRun s is = some (t, popped, stored) →
      timesSet s is =
        (acceptedTicks s is / max s.tick.ratio_f.toNat 1,
          acceptedTicks s is / (max s.tick.ratio_f.toNat 1 * max s.tick.ratio_m.toNat 1),
          acceptedTicks s is /
            (max s.tick.ratio_f.toNat 1 * max s.tick.ratio_m.toNat 1 * max s.tick.ratio_s.toNat 1))

/-- R143: a slow rollover is a medium one and a medium one a fast one, in the same TICK; every event keeps each divider
in 0..254; a divider takes a new value other than 0 only below its ratio. -/
def Obligations.DividersAreLockedAndBounded : Prop :=
  (∀ s : State, ((setByTick s).2.2 = true → (setByTick s).2.1 = true) ∧
    ((setByTick s).2.1 = true → (setByTick s).1 = true)) ∧
  (∀ (i : Instr) (s t : State), exec i s = .next t →
    (s.tick.div_f.toNat ≤ 254 → t.tick.div_f.toNat ≤ 254) ∧
    (s.tick.div_m.toNat ≤ 254 → t.tick.div_m.toNat ≤ 254) ∧
    (s.tick.div_s.toNat ≤ 254 → t.tick.div_s.toNat ≤ 254) ∧
    (t.tick.div_f ≠ s.tick.div_f → t.tick.div_f ≠ 0 → t.tick.div_f.toNat < s.tick.ratio_f.toNat) ∧
    (t.tick.div_m ≠ s.tick.div_m → t.tick.div_m ≠ 0 → t.tick.div_m.toNat < s.tick.ratio_m.toNat) ∧
    (t.tick.div_s ≠ s.tick.div_s → t.tick.div_s ≠ 0 → t.tick.div_s.toNat < s.tick.ratio_s.toNat))

/-- R144: a level with ratio 0 or 1 rolls over on every event of the level below, and its divider is then 0. -/
def Obligations.RatiosZeroAndOneAlwaysRollOver : Prop :=
  ∀ s t : State, s.ctrl.tick_en = true → exec .tick s = .next t →
    (s.tick.ratio_f.toNat ≤ 1 → (setByTick s).1 = true ∧ t.tick.div_f = 0) ∧
    (s.tick.ratio_m.toNat ≤ 1 → (setByTick s).1 = true → (setByTick s).2.1 = true ∧ t.tick.div_m = 0) ∧
    (s.tick.ratio_s.toNat ≤ 1 → (setByTick s).2.1 = true → (setByTick s).2.2 = true ∧ t.tick.div_s = 0) ∧
    (s.tick.ratio_f.toNat ≤ 1 → s.tick.ratio_m.toNat ≤ 1 → s.tick.ratio_s.toNat ≤ 1 →
      t.tick.f_due = true ∧ t.tick.m_due = true ∧ t.tick.s_due = true)

/-- R145: a ratio write keeps every divider and flag, and the next TICK compares with the new ratio: the level rolls
over if it is at most the divider plus one, and counts on if it is larger. -/
def Obligations.RatioWritesTakeEffectAtTheNextTick : Prop :=
  ∀ (d : Byte) (s t u : State), s.ctrl.tick_en = true →
    (exec (.wrFastRatio d) s = .next t → exec .tick t = .next u →
      t = { s with tick := { s.tick with ratio_f := d } } ∧
      (d.toNat ≤ s.tick.div_f.toNat + 1 → u.tick.div_f = 0 ∧ u.tick.f_due = true) ∧
      (s.tick.div_f.toNat + 1 < d.toNat → u.tick.div_f = s.tick.div_f + 1 ∧ u.tick.f_due = s.tick.f_due)) ∧
    (exec (.wrMedRatio d) s = .next t → exec .tick t = .next u → s.tick.ratio_f.toNat ≤ s.tick.div_f.toNat + 1 →
      t = { s with tick := { s.tick with ratio_m := d } } ∧
      (d.toNat ≤ s.tick.div_m.toNat + 1 → u.tick.div_m = 0 ∧ u.tick.m_due = true) ∧
      (s.tick.div_m.toNat + 1 < d.toNat → u.tick.div_m = s.tick.div_m + 1 ∧ u.tick.m_due = s.tick.m_due)) ∧
    (exec (.wrSlowRatio d) s = .next t → exec .tick t = .next u → s.tick.ratio_f.toNat ≤ s.tick.div_f.toNat + 1 →
      s.tick.ratio_m.toNat ≤ s.tick.div_m.toNat + 1 →
      t = { s with tick := { s.tick with ratio_s := d } } ∧
      (d.toNat ≤ s.tick.div_s.toNat + 1 → u.tick.div_s = 0 ∧ u.tick.s_due = true) ∧
      (s.tick.div_s.toNat + 1 < d.toNat → u.tick.div_s = s.tick.div_s + 1 ∧ u.tick.s_due = s.tick.s_due))

/-- R146: a TICK leaves a set flag set, and the block after a rollover is the same whether the flag was already set or
not: nothing records the lost period. -/
def Obligations.LostPeriodsLeaveNoTrace : Prop :=
  ∀ s t : State, s.ctrl.tick_en = true → exec .tick s = .next t →
    (s.tick.f_due = true → t.tick.f_due = true) ∧ (s.tick.m_due = true → t.tick.m_due = true) ∧
    (s.tick.s_due = true → t.tick.s_due = true) ∧
    ((setByTick s).1 = true → exec .tick { s with tick := { s.tick with f_due := !s.tick.f_due } } = .next t) ∧
    ((setByTick s).2.1 = true → exec .tick { s with tick := { s.tick with m_due := !s.tick.m_due } } = .next t) ∧
    ((setByTick s).2.2 = true → exec .tick { s with tick := { s.tick with s_due := !s.tick.s_due } } = .next t)

/-- R147: over any sequence of events the difference of the counter's values modulo 2^32 is the number of accepted
TICKs, when those are fewer than 2^32. -/
def Obligations.CounterDifferenceCountsTicks : Prop :=
  ∀ (is : List Instr) (s t : State) (popped stored : List Byte), eventRun s is = some (t, popped, stored) →
    acceptedTicks s is < 2 ^ 32 → (t.tick.tick_cnt - s.tick.tick_cnt).toNat = acceptedTicks s is

/-- R150: FLAGS reads the three flags and does not clear them; in a shared cycle it sees them from before the TICK. -/
def Obligations.FlagsReadTheDueBits : Prop :=
  ∀ s : State,
    encode .rdFlags = 0x0600 ∧
    exec .rdFlags s = .next
      { s with bus_rdata := BitVec.ofNat 8 (4 * s.tick.s_due.toNat + 2 * s.tick.m_due.toNat + s.tick.f_due.toNat) } ∧
    (∀ u, s.event = none → wholeCycle (some 0x0600) s = .next u →
      u.bus_rdata = BitVec.ofNat 8 (4 * s.tick.s_due.toNat + 2 * s.tick.m_due.toNat + s.tick.f_due.toNat))

/-- R151: a FLAGS write clears exactly the flags whose bit is 1; a TICK performed after it sets its flags again. -/
def Obligations.FlagsWriteOneClears : Prop :=
  ∀ (d : Byte) (s : State),
    encode (.wrFlags d) = 0x4600 ||| d.zeroExtend 16 ∧
    exec (.wrFlags d) s = .next
      { s with
        tick :=
          { s.tick with
            f_due := s.tick.f_due && !d.getLsbD 0
            m_due := s.tick.m_due && !d.getLsbD 1
            s_due := s.tick.s_due && !d.getLsbD 2 } } ∧
    (∀ t u, exec (.wrFlags d) s = .next t → exec .tick t = .next u → s.ctrl.tick_en = true →
      ((setByTick s).1 = true → u.tick.f_due = true) ∧ ((setByTick s).2.1 = true → u.tick.m_due = true) ∧
      ((setByTick s).2.2 = true → u.tick.s_due = true))

/-- R152 to R157: a ratio register reads exactly the last value written; a write changes that ratio only. -/
def Obligations.RatioRegistersReadAndWrite : Prop :=
  ∀ (d : Byte) (s : State),
    (encode .rdFastRatio = 0x0800 ∧ exec .rdFastRatio s = .next { s with bus_rdata := s.tick.ratio_f }) ∧
    (encode .rdMedRatio = 0x0900 ∧ exec .rdMedRatio s = .next { s with bus_rdata := s.tick.ratio_m }) ∧
    (encode .rdSlowRatio = 0x0A00 ∧ exec .rdSlowRatio s = .next { s with bus_rdata := s.tick.ratio_s }) ∧
    (encode (.wrFastRatio d) = 0x4800 ||| d.zeroExtend 16 ∧
      exec (.wrFastRatio d) s = .next { s with tick := { s.tick with ratio_f := d } }) ∧
    (encode (.wrMedRatio d) = 0x4900 ||| d.zeroExtend 16 ∧
      exec (.wrMedRatio d) s = .next { s with tick := { s.tick with ratio_m := d } }) ∧
    (encode (.wrSlowRatio d) = 0x4A00 ||| d.zeroExtend 16 ∧
      exec (.wrSlowRatio d) s = .next { s with tick := { s.tick with ratio_s := d } })

/-- R158, R160, R162: a divider register reads its divider. -/
def Obligations.DividerRegistersRead : Prop :=
  ∀ s : State,
    (encode .rdFastDiv = 0x0C00 ∧ exec .rdFastDiv s = .next { s with bus_rdata := s.tick.div_f }) ∧
    (encode .rdMedDiv = 0x0D00 ∧ exec .rdMedDiv s = .next { s with bus_rdata := s.tick.div_m }) ∧
    (encode .rdSlowDiv = 0x0E00 ∧ exec .rdSlowDiv s = .next { s with bus_rdata := s.tick.div_s })

/-- R164, R166, R168, R170: TICK0 latches the counter and returns its low byte, in a shared cycle from before the TICK;
TICK1 to TICK3 return the snapshot's other bytes and change nothing. -/
def Obligations.CounterBytesComeFromTheSnapshot : Prop :=
  ∀ s : State,
    (encode .rdTick0 = 0x1000 ∧ exec .rdTick0 s = .next
      { s with tick := { s.tick with tick_snap := s.tick.tick_cnt }, bus_rdata := s.tick.tick_cnt.setWidth 8 }) ∧
    (∀ u, s.event = none → wholeCycle (some 0x1000) s = .next u →
      u.bus_rdata = s.tick.tick_cnt.setWidth 8 ∧ u.tick.tick_snap = s.tick.tick_cnt) ∧
    (encode .rdTick1 = 0x1100 ∧
      exec .rdTick1 s = .next { s with bus_rdata := (s.tick.tick_snap >>> 8).setWidth 8 }) ∧
    (encode .rdTick2 = 0x1200 ∧
      exec .rdTick2 s = .next { s with bus_rdata := (s.tick.tick_snap >>> 16).setWidth 8 }) ∧
    (encode .rdTick3 = 0x1300 ∧
      exec .rdTick3 s = .next { s with bus_rdata := (s.tick.tick_snap >>> 24).setWidth 8 })

/-- R173: after a TICK0 read, TICK1, TICK2 and TICK3 return the bytes of the value the counter had there, whatever
events other than a TICK0 read come between. -/
def Obligations.CounterReadIsAtomic : Prop :=
  ∀ (is : List Instr) (s s1 t : State) (popped stored : List Byte), exec .rdTick0 s = .next s1 →
    (∀ i ∈ is, i ≠ .rdTick0) → eventRun s1 is = some (t, popped, stored) →
    s1.bus_rdata = s.tick.tick_cnt.setWidth 8 ∧
    exec .rdTick1 t = .next { t with bus_rdata := (s.tick.tick_cnt >>> 8).setWidth 8 } ∧
    exec .rdTick2 t = .next { t with bus_rdata := (s.tick.tick_cnt >>> 16).setWidth 8 } ∧
    exec .rdTick3 t = .next { t with bus_rdata := (s.tick.tick_cnt >>> 24).setWidth 8 }

/-- R172: a service pass that reads FLAGS and clears each flag it read leaves none for a second pass with no TICK
between. -/
def Obligations.SecondServicePassFindsNothing : Prop :=
  ∀ s : State,
    ∃ t, eventRun s
        ([Instr.rdFlags] ++ (if s.tick.f_due = true then [Instr.wrFlags 0x01] else []) ++
          (if s.tick.m_due = true then [Instr.wrFlags 0x02] else []) ++
          (if s.tick.s_due = true then [Instr.wrFlags 0x04] else [])) = some (t, [], []) ∧
      exec .rdFlags t = .next { t with bus_rdata := 0x00 }

/-! # Control -/

/-- R190 and R191: CTRL reads the two enables; a write sets them from bits 0 and 1 and ignores the others; writing
back what was read changes nothing. -/
def Obligations.CtrlReadsAndSetsTheEnables : Prop :=
  ∀ (d : Byte) (s : State),
    encode .rdCtrl = 0x0400 ∧
    exec .rdCtrl s = .next { s with bus_rdata := BitVec.ofNat 8 (2 * s.ctrl.tick_en.toNat + s.ctrl.rx_en.toNat) } ∧
    encode (.wrCtrl d) = 0x4400 ||| d.zeroExtend 16 ∧
    exec (.wrCtrl d) s = .next { s with ctrl := { rx_en := d.getLsbD 0, tick_en := d.getLsbD 1 } } ∧
    exec (.wrCtrl (BitVec.ofNat 8 (2 * s.ctrl.tick_en.toNat + s.ctrl.rx_en.toNat))) s = .next s

/-- R195: between a CTRL write `m` and the write back of what CTRL read before it, with no other CTRL write and no
FLUSH, the enables are those of `m`, so a masked push stores nothing and a masked tick counts nothing; the write back
restores the prior enables. -/
def Obligations.MaskHoldsUntilRestored : Prop :=
  ∀ (is : List Instr) (m : Byte) (s s1 s2 t u : State) (popped stored : List Byte),
    exec .rdCtrl s = .next s1 → exec (.wrCtrl m) s1 = .next s2 →
    (∀ i ∈ is, ∀ d, i ≠ .wrCtrl d ∧ (i = .wrCmd d → d.getLsbD 0 = false)) →
    eventRun s2 is = some (t, popped, stored) → exec (.wrCtrl s1.bus_rdata) t = .next u →
    t.ctrl = { rx_en := m.getLsbD 0, tick_en := m.getLsbD 1 } ∧
    (m.getLsbD 0 = false → stored = [] ∧ t.fifo.wr_idx = s.fifo.wr_idx ∧ t.fifo.x = s.fifo.x) ∧
    (m.getLsbD 1 = false →
      acceptedTicks s2 is = 0 ∧ t.tick.tick_cnt = s.tick.tick_cnt ∧ t.tick.div_f = s.tick.div_f ∧
      t.tick.div_m = s.tick.div_m ∧ t.tick.div_s = s.tick.div_s ∧
      (t.tick.f_due = true → s.tick.f_due = true) ∧ (t.tick.m_due = true → s.tick.m_due = true) ∧
      (t.tick.s_due = true → s.tick.s_due = true)) ∧
    u.ctrl = s.ctrl

/-! # The whole machine -/

/-- R26, R143 and the canonical form of the array hold after every step from every state in which they hold. -/
def Obligations.EveryStepKeepsTheInvariant : Prop :=
  ∀ s t : State, s.Inv → step s = .next t → t.Inv

/-- The invariant holds at reset. -/
def Obligations.ResetMeetsTheInvariant : Prop := State.reset.Inv

/-- R38, R40, R217: every step keeps both handshakes sound: at most one request outstanding at each port, and a PUSH or
TICK word waits only for a pending request. -/
def Obligations.EveryStepKeepsTheHandshakes : Prop :=
  ∀ s t : State, s.Handshakes → step s = .next t → t.Handshakes

/-- The handshakes are sound at reset. -/
def Obligations.ResetMeetsTheHandshakes : Prop := State.reset.Handshakes

/-- R210: in a state of R26 every event has a defined outcome, a next state; no step faults. That a held PUSH or TICK
too answers a next state, the same one, is the model's reading of R11's "no step" (log 8). -/
def Obligations.EveryEventCompletes : Prop :=
  (∀ (i : Instr) (s : State), s.Inv → ∃ t, exec i s = .next t) ∧
  (∀ (s : State) (r : Fault), s.Inv → step s ≠ .fault r)

/-- R220, R25: only PUSH writes the array, moves the write index forward or raises the count; only an RXDATA read or CMD
lowers the count or moves the read index; only TICK moves the counter or a divider or sets a flag; only a FLAGS write
clears one; only CTRL and CMD writes change an enable; only its own write changes a ratio; only a TICK0 read changes the
snapshot. -/
def Obligations.AccessRightsAreFixedByPort : Prop :=
  ∀ (i : Instr) (s t : State), exec i s = .next t →
    (t.fifo.x ≠ s.fifo.x → ∃ b, i = .push b) ∧
    (t.fifo.wr_idx ≠ s.fifo.wr_idx → (∃ b, i = .push b) ∨ ∃ d, i = .wrCmd d) ∧
    (t.fifo.rd_idx ≠ s.fifo.rd_idx → i = .rdRxdata ∨ ∃ d, i = .wrCmd d) ∧
    (s.fifo.count.toNat < t.fifo.count.toNat → ∃ b, i = .push b) ∧
    (s.fifo.Inv → t.fifo.count.toNat < s.fifo.count.toNat → i = .rdRxdata ∨ ∃ d, i = .wrCmd d) ∧
    (t.fifo.count ≠ s.fifo.count → (∃ b, i = .push b) ∨ i = .rdRxdata ∨ ∃ d, i = .wrCmd d) ∧
    (t.tick.tick_cnt ≠ s.tick.tick_cnt → i = .tick) ∧
    (t.tick.div_f ≠ s.tick.div_f ∨ t.tick.div_m ≠ s.tick.div_m ∨ t.tick.div_s ≠ s.tick.div_s → i = .tick) ∧
    ((s.tick.f_due = false ∧ t.tick.f_due = true) ∨ (s.tick.m_due = false ∧ t.tick.m_due = true) ∨
      (s.tick.s_due = false ∧ t.tick.s_due = true) → i = .tick) ∧
    ((s.tick.f_due = true ∧ t.tick.f_due = false) ∨ (s.tick.m_due = true ∧ t.tick.m_due = false) ∨
      (s.tick.s_due = true ∧ t.tick.s_due = false) → ∃ d, i = .wrFlags d) ∧
    (t.ctrl ≠ s.ctrl → (∃ d, i = .wrCtrl d) ∨ ∃ d, i = .wrCmd d) ∧
    (t.tick.ratio_f ≠ s.tick.ratio_f → ∃ d, i = .wrFastRatio d) ∧
    (t.tick.ratio_m ≠ s.tick.ratio_m → ∃ d, i = .wrMedRatio d) ∧
    (t.tick.ratio_s ≠ s.tick.ratio_s → ∃ d, i = .wrSlowRatio d) ∧
    (t.tick.tick_snap ≠ s.tick.tick_snap → i = .rdTick0)

/-- An event changes nothing outside the block: the senders' toggles and data, the synchronizers, the waiting word, the
place in the cycle and the inputs stay; CAP and the unspecified contents stay; only PUSH and TICK acknowledge. -/
def Obligations.EventsKeepTheSurroundings : Prop :=
  ∀ (i : Instr) (s t : State), exec i s = .next t →
    t.push_data = s.push_data ∧ t.event = s.event ∧ t.phase = s.phase ∧ t.inputs = s.inputs ∧
    t.pushPort.req = s.pushPort.req ∧ t.pushPort.reqSync = s.pushPort.reqSync ∧
    t.pushPort.ackSync = s.pushPort.ackSync ∧ t.tickPort.req = s.tickPort.req ∧
    t.tickPort.reqSync = s.tickPort.reqSync ∧ t.tickPort.ackSync = s.tickPort.ackSync ∧
    t.fifo.cap = s.fifo.cap ∧ t.fifo.era = s.fifo.era ∧
    (t.pushPort.ack ≠ s.pushPort.ack → ∃ b, i = .push b) ∧ (t.tickPort.ack ≠ s.tickPort.ack → i = .tick)

/-- R56: writing the same value twice in a row to CTRL, CMD, FLAGS or a ratio leaves the state that one write leaves. -/
def Obligations.WritingTwiceIsWritingOnce : Prop :=
  ∀ (d : Byte) (i : Instr) (s t : State),
    i ∈ [Instr.wrCtrl d, .wrCmd d, .wrFlags d, .wrFastRatio d, .wrMedRatio d, .wrSlowRatio d] →
    exec i s = .next t → exec i t = .next t
end

