-- ==== Sys2Proof/Laws/Encoding.lean ====
section
/-! SUPPORT. The fields of a word made from its fields. -/

namespace Sys2Proof

@[simp] theorem kindOf_eventWord (k : BitVec 2) (a : Addr) (d : Byte) : kindOf (eventWord k a d) = k := by
  apply BitVec.eq_of_getLsbD_eq
  intro i hi
  simp only [kindOf, eventWord, BitVec.getLsbD_extractLsb', BitVec.getLsbD_append]
  interval_cases i <;> simp

@[simp] theorem rsvOf_eventWord (k : BitVec 2) (a : Addr) (d : Byte) : rsvOf (eventWord k a d) = 0#1 := by
  apply BitVec.eq_of_getLsbD_eq
  intro i hi
  simp only [rsvOf, eventWord, BitVec.getLsbD_extractLsb', BitVec.getLsbD_append]
  interval_cases i
  simp

@[simp] theorem addrOf_eventWord (k : BitVec 2) (a : Addr) (d : Byte) : addrOf (eventWord k a d) = a := by
  apply BitVec.eq_of_getLsbD_eq
  intro i hi
  simp only [addrOf, eventWord, BitVec.getLsbD_extractLsb', BitVec.getLsbD_append]
  interval_cases i <;> simp

@[simp] theorem dataOf_eventWord (k : BitVec 2) (a : Addr) (d : Byte) : dataOf (eventWord k a d) = d := by
  apply BitVec.eq_of_getLsbD_eq
  intro i hi
  simp only [dataOf, eventWord, BitVec.getLsbD_extractLsb', BitVec.getLsbD_append]
  interval_cases i <;> simp

/-- A word is its four fields. -/
theorem eventWord_of_fields (w : EventWord) (h : rsvOf w = 0#1) : eventWord (kindOf w) (addrOf w) (dataOf w) = w := by
  have h13 : w.getLsbD 13 = false := by
    have := congrArg (fun v => v.getLsbD 0) h
    simpa [rsvOf] using this
  apply BitVec.eq_of_getLsbD_eq
  intro i hi
  simp only [kindOf, addrOf, dataOf, eventWord, BitVec.getLsbD_extractLsb', BitVec.getLsbD_append]
  interval_cases i <;> simp_all

end Sys2Proof
end

