-- ==== Sys2Proof/Laws/Memory.lean ====
section
/-! SUPPORT. The FIFO array's cells: what a read after a write gives, and that a write keeps the canonical form. -/

namespace Sys2Proof.Machine

theorem Memory.read_nil (i : Nat) : Memory.read [] i = none := rfl

/-- A write gives its value at its address and leaves every other address as it was. -/
theorem Memory.read_write (m : List Host.Cell) (i a : Nat) (v : Byte) :
    Memory.read (Memory.write m i v) a = if a = i then some v else Memory.read m a := by
  induction m with
  | nil => simp [Memory.write, Memory.read, eq_comm]
  | cons c m ih =>
    obtain ⟨b, w⟩ := c
    unfold Memory.write
    split_ifs <;> simp_all [Memory.read, eq_comm]

@[simp] theorem Memory.read_write_same (m : List Host.Cell) (i : Nat) (v : Byte) :
    Memory.read (Memory.write m i v) i = some v := by simp [Memory.read_write]

theorem Memory.read_write_other (m : List Host.Cell) {i a : Nat} (v : Byte) (h : a ≠ i) :
    Memory.read (Memory.write m i v) a = Memory.read m a := by simp [Memory.read_write, h]

/-- The cells after a write are the old ones and the new one. -/
theorem Memory.mem_write {m : List Host.Cell} {i : Nat} {v : Byte} {c : Host.Cell}
    (h : c ∈ Memory.write m i v) : c = (i, v) ∨ c ∈ m := by
  induction m with
  | nil => simpa [Memory.write] using h
  | cons d m ih =>
    obtain ⟨b, w⟩ := d
    unfold Memory.write at h
    split_ifs at h <;> simp only [List.mem_cons] at h ⊢ <;> tauto

/-- A write keeps the canonical form. -/
theorem Memory.write_wf {m : List Host.Cell} (h : Memory.wf m) (i : Nat) (v : Byte) :
    Memory.wf (Memory.write m i v) := by
  induction m with
  | nil => simp [Memory.write, Memory.wf]
  | cons c m ih =>
    obtain ⟨b, w⟩ := c
    rw [Memory.wf, List.pairwise_cons] at h
    unfold Memory.write
    split_ifs with h1 h2
    · refine List.pairwise_cons.2 ⟨?_, List.pairwise_cons.2 h⟩
      intro d hd
      rcases List.mem_cons.1 hd with rfl | hd
      · exact h1
      · exact lt_trans h1 (h.1 d hd)
    · subst h2; exact List.pairwise_cons.2 h
    · refine List.pairwise_cons.2 ⟨?_, ih h.2⟩
      intro d hd
      rcases Memory.mem_write hd with rfl | hd
      · simp only; omega
      · exact h.1 d hd

/-- The memory of the state after reset is in canonical form. -/
theorem Memory.reset_wf : Memory.wf State.reset.fifo.x := List.Pairwise.nil

end Sys2Proof.Machine
end

