-- ==== Sys2Proof/Laws/State.lean ====
section
/-! SUPPORT. What each update leaves in each field: one lemma per field per update. -/

namespace Sys2Proof.Machine

/-! `State.setRdata` -/

@[simp] theorem State.setRdata_fifo (s : State) (v : Byte) : (s.setRdata v).fifo = s.fifo := rfl
@[simp] theorem State.setRdata_tick (s : State) (v : Byte) : (s.setRdata v).tick = s.tick := rfl
@[simp] theorem State.setRdata_ctrl (s : State) (v : Byte) : (s.setRdata v).ctrl = s.ctrl := rfl
@[simp] theorem State.setRdata_pushPort (s : State) (v : Byte) : (s.setRdata v).pushPort = s.pushPort := rfl
@[simp] theorem State.setRdata_push_data (s : State) (v : Byte) : (s.setRdata v).push_data = s.push_data := rfl
@[simp] theorem State.setRdata_tickPort (s : State) (v : Byte) : (s.setRdata v).tickPort = s.tickPort := rfl
@[simp] theorem State.setRdata_bus_rdata (s : State) (v : Byte) : (s.setRdata v).bus_rdata = v := rfl
@[simp] theorem State.setRdata_event (s : State) (v : Byte) : (s.setRdata v).event = s.event := rfl
@[simp] theorem State.setRdata_phase (s : State) (v : Byte) : (s.setRdata v).phase = s.phase := rfl
@[simp] theorem State.setRdata_inputs (s : State) (v : Byte) : (s.setRdata v).inputs = s.inputs := rfl

/-! `State.setFifo` -/

@[simp] theorem State.setFifo_fifo (s : State) (f : Fifo) : (s.setFifo f).fifo = f := rfl
@[simp] theorem State.setFifo_tick (s : State) (f : Fifo) : (s.setFifo f).tick = s.tick := rfl
@[simp] theorem State.setFifo_ctrl (s : State) (f : Fifo) : (s.setFifo f).ctrl = s.ctrl := rfl
@[simp] theorem State.setFifo_pushPort (s : State) (f : Fifo) : (s.setFifo f).pushPort = s.pushPort := rfl
@[simp] theorem State.setFifo_push_data (s : State) (f : Fifo) : (s.setFifo f).push_data = s.push_data := rfl
@[simp] theorem State.setFifo_tickPort (s : State) (f : Fifo) : (s.setFifo f).tickPort = s.tickPort := rfl
@[simp] theorem State.setFifo_bus_rdata (s : State) (f : Fifo) : (s.setFifo f).bus_rdata = s.bus_rdata := rfl
@[simp] theorem State.setFifo_event (s : State) (f : Fifo) : (s.setFifo f).event = s.event := rfl
@[simp] theorem State.setFifo_phase (s : State) (f : Fifo) : (s.setFifo f).phase = s.phase := rfl
@[simp] theorem State.setFifo_inputs (s : State) (f : Fifo) : (s.setFifo f).inputs = s.inputs := rfl

/-! `State.setTick` -/

@[simp] theorem State.setTick_fifo (s : State) (t : TickSource) : (s.setTick t).fifo = s.fifo := rfl
@[simp] theorem State.setTick_tick (s : State) (t : TickSource) : (s.setTick t).tick = t := rfl
@[simp] theorem State.setTick_ctrl (s : State) (t : TickSource) : (s.setTick t).ctrl = s.ctrl := rfl
@[simp] theorem State.setTick_pushPort (s : State) (t : TickSource) : (s.setTick t).pushPort = s.pushPort := rfl
@[simp] theorem State.setTick_push_data (s : State) (t : TickSource) : (s.setTick t).push_data = s.push_data := rfl
@[simp] theorem State.setTick_tickPort (s : State) (t : TickSource) : (s.setTick t).tickPort = s.tickPort := rfl
@[simp] theorem State.setTick_bus_rdata (s : State) (t : TickSource) : (s.setTick t).bus_rdata = s.bus_rdata := rfl
@[simp] theorem State.setTick_event (s : State) (t : TickSource) : (s.setTick t).event = s.event := rfl
@[simp] theorem State.setTick_phase (s : State) (t : TickSource) : (s.setTick t).phase = s.phase := rfl
@[simp] theorem State.setTick_inputs (s : State) (t : TickSource) : (s.setTick t).inputs = s.inputs := rfl

/-! `State.setCtrl` -/

@[simp] theorem State.setCtrl_fifo (s : State) (c : Ctrl) : (s.setCtrl c).fifo = s.fifo := rfl
@[simp] theorem State.setCtrl_tick (s : State) (c : Ctrl) : (s.setCtrl c).tick = s.tick := rfl
@[simp] theorem State.setCtrl_ctrl (s : State) (c : Ctrl) : (s.setCtrl c).ctrl = c := rfl
@[simp] theorem State.setCtrl_pushPort (s : State) (c : Ctrl) : (s.setCtrl c).pushPort = s.pushPort := rfl
@[simp] theorem State.setCtrl_push_data (s : State) (c : Ctrl) : (s.setCtrl c).push_data = s.push_data := rfl
@[simp] theorem State.setCtrl_tickPort (s : State) (c : Ctrl) : (s.setCtrl c).tickPort = s.tickPort := rfl
@[simp] theorem State.setCtrl_bus_rdata (s : State) (c : Ctrl) : (s.setCtrl c).bus_rdata = s.bus_rdata := rfl
@[simp] theorem State.setCtrl_event (s : State) (c : Ctrl) : (s.setCtrl c).event = s.event := rfl
@[simp] theorem State.setCtrl_phase (s : State) (c : Ctrl) : (s.setCtrl c).phase = s.phase := rfl
@[simp] theorem State.setCtrl_inputs (s : State) (c : Ctrl) : (s.setCtrl c).inputs = s.inputs := rfl

/-! `State.ackPush` -/

@[simp] theorem State.ackPush_fifo (s : State) : (s.ackPush).fifo = s.fifo := rfl
@[simp] theorem State.ackPush_tick (s : State) : (s.ackPush).tick = s.tick := rfl
@[simp] theorem State.ackPush_ctrl (s : State) : (s.ackPush).ctrl = s.ctrl := rfl
@[simp] theorem State.ackPush_pushPort (s : State) : (s.ackPush).pushPort = s.pushPort.acknowledge := rfl
@[simp] theorem State.ackPush_push_data (s : State) : (s.ackPush).push_data = s.push_data := rfl
@[simp] theorem State.ackPush_tickPort (s : State) : (s.ackPush).tickPort = s.tickPort := rfl
@[simp] theorem State.ackPush_bus_rdata (s : State) : (s.ackPush).bus_rdata = s.bus_rdata := rfl
@[simp] theorem State.ackPush_event (s : State) : (s.ackPush).event = s.event := rfl
@[simp] theorem State.ackPush_phase (s : State) : (s.ackPush).phase = s.phase := rfl
@[simp] theorem State.ackPush_inputs (s : State) : (s.ackPush).inputs = s.inputs := rfl

/-! `State.ackTick` -/

@[simp] theorem State.ackTick_fifo (s : State) : (s.ackTick).fifo = s.fifo := rfl
@[simp] theorem State.ackTick_tick (s : State) : (s.ackTick).tick = s.tick := rfl
@[simp] theorem State.ackTick_ctrl (s : State) : (s.ackTick).ctrl = s.ctrl := rfl
@[simp] theorem State.ackTick_pushPort (s : State) : (s.ackTick).pushPort = s.pushPort := rfl
@[simp] theorem State.ackTick_push_data (s : State) : (s.ackTick).push_data = s.push_data := rfl
@[simp] theorem State.ackTick_tickPort (s : State) : (s.ackTick).tickPort = s.tickPort.acknowledge := rfl
@[simp] theorem State.ackTick_bus_rdata (s : State) : (s.ackTick).bus_rdata = s.bus_rdata := rfl
@[simp] theorem State.ackTick_event (s : State) : (s.ackTick).event = s.event := rfl
@[simp] theorem State.ackTick_phase (s : State) : (s.ackTick).phase = s.phase := rfl
@[simp] theorem State.ackTick_inputs (s : State) : (s.ackTick).inputs = s.inputs := rfl

/-! `State.clkEdge` -/

@[simp] theorem State.clkEdge_fifo (s : State) : (s.clkEdge).fifo = s.fifo := rfl
@[simp] theorem State.clkEdge_tick (s : State) : (s.clkEdge).tick = s.tick := rfl
@[simp] theorem State.clkEdge_ctrl (s : State) : (s.clkEdge).ctrl = s.ctrl := rfl
@[simp] theorem State.clkEdge_pushPort (s : State) : (s.clkEdge).pushPort = s.pushPort.coreEdge := rfl
@[simp] theorem State.clkEdge_push_data (s : State) : (s.clkEdge).push_data = s.push_data := rfl
@[simp] theorem State.clkEdge_tickPort (s : State) : (s.clkEdge).tickPort = s.tickPort.coreEdge := rfl
@[simp] theorem State.clkEdge_bus_rdata (s : State) : (s.clkEdge).bus_rdata = s.bus_rdata := rfl
@[simp] theorem State.clkEdge_event (s : State) : (s.clkEdge).event = s.event := rfl
@[simp] theorem State.clkEdge_phase (s : State) : (s.clkEdge).phase = s.phase := rfl
@[simp] theorem State.clkEdge_inputs (s : State) : (s.clkEdge).inputs = s.inputs := rfl

/-! `State.pushStep` -/

@[simp] theorem State.pushStep_fifo (s : State) : (s.pushStep).fifo = s.fifo := rfl
@[simp] theorem State.pushStep_tick (s : State) : (s.pushStep).tick = s.tick := rfl
@[simp] theorem State.pushStep_ctrl (s : State) : (s.pushStep).ctrl = s.ctrl := rfl
@[simp] theorem State.pushStep_pushPort (s : State) : (s.pushStep).pushPort = s.pushPort := rfl
@[simp] theorem State.pushStep_push_data (s : State) : (s.pushStep).push_data = s.push_data := rfl
@[simp] theorem State.pushStep_tickPort (s : State) : (s.pushStep).tickPort = s.tickPort := rfl
@[simp] theorem State.pushStep_bus_rdata (s : State) : (s.pushStep).bus_rdata = s.bus_rdata := rfl
@[simp] theorem State.pushStep_event (s : State) : (s.pushStep).event = (if s.pushPort.pending && s.ctrl.rx_en then some (eventWord kindPush 0 s.push_data) else none) := rfl
@[simp] theorem State.pushStep_phase (s : State) : (s.pushStep).phase = .tick := rfl
@[simp] theorem State.pushStep_inputs (s : State) : (s.pushStep).inputs = s.inputs := rfl

/-! `State.tickStep` -/

@[simp] theorem State.tickStep_fifo (s : State) : (s.tickStep).fifo = s.fifo := rfl
@[simp] theorem State.tickStep_tick (s : State) : (s.tickStep).tick = s.tick := rfl
@[simp] theorem State.tickStep_ctrl (s : State) : (s.tickStep).ctrl = s.ctrl := rfl
@[simp] theorem State.tickStep_pushPort (s : State) : (s.tickStep).pushPort = s.pushPort := rfl
@[simp] theorem State.tickStep_push_data (s : State) : (s.tickStep).push_data = s.push_data := rfl
@[simp] theorem State.tickStep_tickPort (s : State) : (s.tickStep).tickPort = s.tickPort := rfl
@[simp] theorem State.tickStep_bus_rdata (s : State) : (s.tickStep).bus_rdata = s.bus_rdata := rfl
@[simp] theorem State.tickStep_event (s : State) : (s.tickStep).event = (if s.tickPort.pending && s.ctrl.tick_en then some (eventWord kindTick 0 0) else none) := rfl
@[simp] theorem State.tickStep_phase (s : State) : (s.tickStep).phase = .cycle := rfl
@[simp] theorem State.tickStep_inputs (s : State) : (s.tickStep).inputs = s.inputs := rfl

/-! `State.resetCycle` -/

@[simp] theorem State.resetCycle_fifo (s : State) : (s.resetCycle).fifo = Fifo.reset s.fifo.cap (s.fifo.era + 1) := rfl
@[simp] theorem State.resetCycle_tick (s : State) : (s.resetCycle).tick = TickSource.reset := rfl
@[simp] theorem State.resetCycle_ctrl (s : State) : (s.resetCycle).ctrl = { rx_en := true, tick_en := true } := rfl
@[simp] theorem State.resetCycle_pushPort (s : State) : (s.resetCycle).pushPort = Port.reset := rfl
@[simp] theorem State.resetCycle_push_data (s : State) : (s.resetCycle).push_data = 0 := rfl
@[simp] theorem State.resetCycle_tickPort (s : State) : (s.resetCycle).tickPort = Port.reset := rfl
@[simp] theorem State.resetCycle_bus_rdata (s : State) : (s.resetCycle).bus_rdata = 0 := rfl
@[simp] theorem State.resetCycle_event (s : State) : (s.resetCycle).event = none := rfl
@[simp] theorem State.resetCycle_phase (s : State) : (s.resetCycle).phase = .cycle := rfl
@[simp] theorem State.resetCycle_inputs (s : State) : (s.resetCycle).inputs = s.inputs := rfl

/-! `State.flagsCleared` -/

@[simp] theorem State.flagsCleared_fifo (s : State) : (s.flagsCleared).fifo = s.fifo := rfl
@[simp] theorem State.flagsCleared_tick (s : State) : (s.flagsCleared).tick = { s.tick with f_due := false, m_due := false, s_due := false } := rfl
@[simp] theorem State.flagsCleared_ctrl (s : State) : (s.flagsCleared).ctrl = s.ctrl := rfl
@[simp] theorem State.flagsCleared_pushPort (s : State) : (s.flagsCleared).pushPort = s.pushPort := rfl
@[simp] theorem State.flagsCleared_push_data (s : State) : (s.flagsCleared).push_data = s.push_data := rfl
@[simp] theorem State.flagsCleared_tickPort (s : State) : (s.flagsCleared).tickPort = s.tickPort := rfl
@[simp] theorem State.flagsCleared_bus_rdata (s : State) : (s.flagsCleared).bus_rdata = s.bus_rdata := rfl
@[simp] theorem State.flagsCleared_event (s : State) : (s.flagsCleared).event = s.event := rfl
@[simp] theorem State.flagsCleared_phase (s : State) : (s.flagsCleared).phase = s.phase := rfl
@[simp] theorem State.flagsCleared_inputs (s : State) : (s.flagsCleared).inputs = s.inputs := rfl

/-! `Fifo.advanceWrite` -/

@[simp] theorem Fifo.advanceWrite_cap (f : Fifo) : (f.advanceWrite).cap = f.cap := rfl
@[simp] theorem Fifo.advanceWrite_x (f : Fifo) : (f.advanceWrite).x = f.x := rfl
@[simp] theorem Fifo.advanceWrite_rd_idx (f : Fifo) : (f.advanceWrite).rd_idx = f.rd_idx := rfl
@[simp] theorem Fifo.advanceWrite_wr_idx (f : Fifo) : (f.advanceWrite).wr_idx = f.succIdx f.wr_idx := rfl
@[simp] theorem Fifo.advanceWrite_count (f : Fifo) : (f.advanceWrite).count = f.count + 1 := rfl
@[simp] theorem Fifo.advanceWrite_era (f : Fifo) : (f.advanceWrite).era = f.era := rfl

/-! `Fifo.advanceRead` -/

@[simp] theorem Fifo.advanceRead_cap (f : Fifo) : (f.advanceRead).cap = f.cap := rfl
@[simp] theorem Fifo.advanceRead_x (f : Fifo) : (f.advanceRead).x = f.x := rfl
@[simp] theorem Fifo.advanceRead_rd_idx (f : Fifo) : (f.advanceRead).rd_idx = f.succIdx f.rd_idx := rfl
@[simp] theorem Fifo.advanceRead_wr_idx (f : Fifo) : (f.advanceRead).wr_idx = f.wr_idx := rfl
@[simp] theorem Fifo.advanceRead_count (f : Fifo) : (f.advanceRead).count = f.count - 1 := rfl
@[simp] theorem Fifo.advanceRead_era (f : Fifo) : (f.advanceRead).era = f.era := rfl

/-! `Fifo.flush` -/

@[simp] theorem Fifo.flush_cap (f : Fifo) : (f.flush).cap = f.cap := rfl
@[simp] theorem Fifo.flush_x (f : Fifo) : (f.flush).x = f.x := rfl
@[simp] theorem Fifo.flush_rd_idx (f : Fifo) : (f.flush).rd_idx = 0 := rfl
@[simp] theorem Fifo.flush_wr_idx (f : Fifo) : (f.flush).wr_idx = 0 := rfl
@[simp] theorem Fifo.flush_count (f : Fifo) : (f.flush).count = 0 := rfl
@[simp] theorem Fifo.flush_era (f : Fifo) : (f.flush).era = f.era := rfl

/-! `TickSource.fire` -/

@[simp] theorem TickSource.fire_tick_cnt (t : TickSource) : (t.fire).tick_cnt = t.tick_cnt + 1 := rfl
@[simp] theorem TickSource.fire_tick_snap (t : TickSource) : (t.fire).tick_snap = t.tick_snap := rfl
@[simp] theorem TickSource.fire_div_f (t : TickSource) : (t.fire).div_f = nextDiv t.div_f t.ratio_f := rfl
@[simp] theorem TickSource.fire_div_m (t : TickSource) : (t.fire).div_m = (if t.fastRolls then nextDiv t.div_m t.ratio_m else t.div_m) := rfl
@[simp] theorem TickSource.fire_div_s (t : TickSource) : (t.fire).div_s = (if t.medRolls then nextDiv t.div_s t.ratio_s else t.div_s) := rfl
@[simp] theorem TickSource.fire_ratio_f (t : TickSource) : (t.fire).ratio_f = t.ratio_f := rfl
@[simp] theorem TickSource.fire_ratio_m (t : TickSource) : (t.fire).ratio_m = t.ratio_m := rfl
@[simp] theorem TickSource.fire_ratio_s (t : TickSource) : (t.fire).ratio_s = t.ratio_s := rfl
@[simp] theorem TickSource.fire_f_due (t : TickSource) : (t.fire).f_due = (t.f_due || t.fastRolls) := rfl
@[simp] theorem TickSource.fire_m_due (t : TickSource) : (t.fire).m_due = (t.m_due || t.medRolls) := rfl
@[simp] theorem TickSource.fire_s_due (t : TickSource) : (t.fire).s_due = (t.s_due || t.slowRolls) := rfl

/-! `TickSource.latch` -/

@[simp] theorem TickSource.latch_tick_cnt (t : TickSource) : (t.latch).tick_cnt = t.tick_cnt := rfl
@[simp] theorem TickSource.latch_tick_snap (t : TickSource) : (t.latch).tick_snap = t.tick_cnt := rfl
@[simp] theorem TickSource.latch_div_f (t : TickSource) : (t.latch).div_f = t.div_f := rfl
@[simp] theorem TickSource.latch_div_m (t : TickSource) : (t.latch).div_m = t.div_m := rfl
@[simp] theorem TickSource.latch_div_s (t : TickSource) : (t.latch).div_s = t.div_s := rfl
@[simp] theorem TickSource.latch_ratio_f (t : TickSource) : (t.latch).ratio_f = t.ratio_f := rfl
@[simp] theorem TickSource.latch_ratio_m (t : TickSource) : (t.latch).ratio_m = t.ratio_m := rfl
@[simp] theorem TickSource.latch_ratio_s (t : TickSource) : (t.latch).ratio_s = t.ratio_s := rfl
@[simp] theorem TickSource.latch_f_due (t : TickSource) : (t.latch).f_due = t.f_due := rfl
@[simp] theorem TickSource.latch_m_due (t : TickSource) : (t.latch).m_due = t.m_due := rfl
@[simp] theorem TickSource.latch_s_due (t : TickSource) : (t.latch).s_due = t.s_due := rfl

/-! `TickSource.clearFlags` -/

@[simp] theorem TickSource.clearFlags_tick_cnt (t : TickSource) (d : Byte) : (t.clearFlags d).tick_cnt = t.tick_cnt := rfl
@[simp] theorem TickSource.clearFlags_tick_snap (t : TickSource) (d : Byte) : (t.clearFlags d).tick_snap = t.tick_snap := rfl
@[simp] theorem TickSource.clearFlags_div_f (t : TickSource) (d : Byte) : (t.clearFlags d).div_f = t.div_f := rfl
@[simp] theorem TickSource.clearFlags_div_m (t : TickSource) (d : Byte) : (t.clearFlags d).div_m = t.div_m := rfl
@[simp] theorem TickSource.clearFlags_div_s (t : TickSource) (d : Byte) : (t.clearFlags d).div_s = t.div_s := rfl
@[simp] theorem TickSource.clearFlags_ratio_f (t : TickSource) (d : Byte) : (t.clearFlags d).ratio_f = t.ratio_f := rfl
@[simp] theorem TickSource.clearFlags_ratio_m (t : TickSource) (d : Byte) : (t.clearFlags d).ratio_m = t.ratio_m := rfl
@[simp] theorem TickSource.clearFlags_ratio_s (t : TickSource) (d : Byte) : (t.clearFlags d).ratio_s = t.ratio_s := rfl
@[simp] theorem TickSource.clearFlags_f_due (t : TickSource) (d : Byte) : (t.clearFlags d).f_due = (if dataBit0 d then false else t.f_due) := rfl
@[simp] theorem TickSource.clearFlags_m_due (t : TickSource) (d : Byte) : (t.clearFlags d).m_due = (if dataBit1 d then false else t.m_due) := rfl
@[simp] theorem TickSource.clearFlags_s_due (t : TickSource) (d : Byte) : (t.clearFlags d).s_due = (if dataBit2 d then false else t.s_due) := rfl

/-! `Port.acknowledge` -/

@[simp] theorem Port.acknowledge_req (p : Port) : (p.acknowledge).req = p.req := rfl
@[simp] theorem Port.acknowledge_reqSync (p : Port) : (p.acknowledge).reqSync = p.reqSync := rfl
@[simp] theorem Port.acknowledge_ack (p : Port) : (p.acknowledge).ack = (!p.ack) := rfl
@[simp] theorem Port.acknowledge_ackSync (p : Port) : (p.acknowledge).ackSync = p.ackSync := rfl

/-! `Port.coreEdge` -/

@[simp] theorem Port.coreEdge_req (p : Port) : (p.coreEdge).req = p.req := rfl
@[simp] theorem Port.coreEdge_reqSync (p : Port) : (p.coreEdge).reqSync = { first := p.req, second := p.reqSync.first } := rfl
@[simp] theorem Port.coreEdge_ack (p : Port) : (p.coreEdge).ack = p.ack := rfl
@[simp] theorem Port.coreEdge_ackSync (p : Port) : (p.coreEdge).ackSync = p.ackSync := rfl

/-! `Port.senderEdge` -/

@[simp] theorem Port.senderEdge_req (p : Port) : (p.senderEdge).req = p.req := rfl
@[simp] theorem Port.senderEdge_reqSync (p : Port) : (p.senderEdge).reqSync = p.reqSync := rfl
@[simp] theorem Port.senderEdge_ack (p : Port) : (p.senderEdge).ack = p.ack := rfl
@[simp] theorem Port.senderEdge_ackSync (p : Port) : (p.senderEdge).ackSync = { first := p.ack, second := p.ackSync.first } := rfl

/-! `Port.start` -/

@[simp] theorem Port.start_req (p : Port) : (p.start).req = (!p.req) := rfl
@[simp] theorem Port.start_reqSync (p : Port) : (p.start).reqSync = p.reqSync := rfl
@[simp] theorem Port.start_ack (p : Port) : (p.start).ack = p.ack := rfl
@[simp] theorem Port.start_ackSync (p : Port) : (p.start).ackSync = p.ackSync := rfl

/-! `Port.requested` -/

@[simp] theorem Port.requested_req (p : Port) : (p.requested).req = (!p.ack) := rfl
@[simp] theorem Port.requested_reqSync (p : Port) : (p.requested).reqSync = { first := !p.ack, second := !p.ack } := rfl
@[simp] theorem Port.requested_ack (p : Port) : (p.requested).ack = p.ack := rfl
@[simp] theorem Port.requested_ackSync (p : Port) : (p.requested).ackSync = { first := p.ack, second := p.ack } := rfl

end Sys2Proof.Machine
end

