-- ==== Sys2Proof/Laws/Ops.lean ====
section
/-! SUPPORT. What each shared operation can do, said once. -/

namespace Sys2Proof.Machine

/-! The FIFO array and the FIFO. -/

theorem Fifo.readEntry_eq_some {f : Fifo} {i v : Byte} :
    f.readEntry i = some v ↔ i.toNat < f.cap ∧ f.entry i.toNat = v := by
  simp [Fifo.readEntry]

theorem Fifo.writeEntry_eq_some {f g : Fifo} {i v : Byte} :
    f.writeEntry i v = some g ↔ i.toNat < f.cap ∧ { f with x := Memory.write f.x i.toNat v } = g := by
  simp [Fifo.writeEntry]

/-- A listed entry holds the byte that PUSH wrote. -/
theorem Fifo.entry_of_read {f : Fifo} {i : Nat} {v : Byte} (h : Memory.read f.x i = some v) : f.entry i = v := by
  simp [Fifo.entry, h]

/-- Storing a byte answers a next state exactly when the array has the entry at `wr_idx`, and then this one. -/
theorem storeByte_next {b : Byte} {s t : State} :
    storeByte b s = .next t ↔ s.fifo.wr_idx.toNat < s.fifo.cap ∧
      t = (s.setFifo
        { s.fifo with
          x := Memory.write s.fifo.x s.fifo.wr_idx.toNat b
          wr_idx := s.fifo.succIdx s.fifo.wr_idx
          count := s.fifo.count + 1 }).ackPush := by
  unfold storeByte Fifo.writeEntry
  by_cases h : s.fifo.wr_idx.toNat < s.fifo.cap <;> simp [h, eq_comm, Fifo.advanceWrite, Fifo.succIdx]

/-- Popping a byte answers a next state exactly when the array has the entry at `rd_idx`, and then this one. -/
theorem takeByte_next {s t : State} :
    takeByte s = .next t ↔ s.fifo.rd_idx.toNat < s.fifo.cap ∧
      t = (s.setFifo s.fifo.advanceRead).setRdata (s.fifo.entry s.fifo.rd_idx.toNat) := by
  unfold takeByte Fifo.readEntry
  by_cases h : s.fifo.rd_idx.toNat < s.fifo.cap <;> simp [h, eq_comm]

/-! The tick source. -/

/-- The 9-bit comparison of the divider's next count with the ratio, in numbers. -/
theorem reaches_iff (d r : Byte) : reaches d r = true ↔ r.toNat ≤ d.toNat + 1 := by
  have h1 : (d.zeroExtend 9 + 1 : BitVec 9).toNat = d.toNat + 1 := by
    have := d.isLt; simp [BitVec.toNat_add]; omega
  have h2 : (r.zeroExtend 9).toNat = r.toNat := by have := r.isLt; simp; omega
  simp only [reaches, decide_eq_true_eq, BitVec.le_def, h1, h2]

/-- A divider's next count, in numbers: below the ratio it is one more, otherwise 0. -/
theorem nextDiv_toNat (d r : Byte) :
    (nextDiv d r).toNat = if r.toNat ≤ d.toNat + 1 then 0 else d.toNat + 1 := by
  have := d.isLt
  have := r.isLt
  unfold nextDiv
  by_cases h : r.toNat ≤ d.toNat + 1
  · simp [(reaches_iff d r).2 h, h]
  · have hr : reaches d r = false := by rw [Bool.eq_false_iff]; exact fun h' => h ((reaches_iff d r).1 h')
    simp only [hr, h, if_false, Bool.false_eq_true, BitVec.toNat_add]
    simp; omega

/-- A divider takes a new value other than 0 only below its ratio, so it stays at most 254 (41_tick.md R143). -/
theorem nextDiv_le (d r : Byte) : (nextDiv d r).toNat ≤ 254 := by
  have := r.isLt
  rw [nextDiv_toNat]; split <;> omega

/-! Events and cycles. -/

theorem perform_ok {run : Instr → State → Outcome} {w : EventWord} {i : Instr} (h : decode w = .ok i) (s : State) :
    perform run w s = run i s := by simp [perform, h]

theorem perform_error {run : Instr → State → Outcome} {w : EventWord} {e : DecodeError} (h : decode w = .error e)
    (s : State) : perform run w s = .refused (.illegalWord e) := by simp [perform, h]

/-- Performing a word answers a next state only through the event it spells. -/
theorem perform_next {run : Instr → State → Outcome} {w : EventWord} {s t : State} (h : perform run w s = .next t) :
    ∃ i, decode w = .ok i ∧ run i s = .next t := by
  unfold perform at h
  split at h
  · exact ⟨_, ‹_›, h⟩
  · cases h

/-- A step answers a next state either by the event that waits or by going on with the cycle. -/
theorem step_next {s t : State} (h : step s = .next t) :
    (∃ w i, s.event = some w ∧ decode w = .ok i ∧ exec i { s with event := none } = .next t) ∨
      (s.event = none ∧ s.advance = .next t) := by
  unfold step at h
  split at h
  · obtain ⟨i, hi, hr⟩ := perform_next h
    exact .inl ⟨_, i, ‹_›, hi, hr⟩
  · exact .inr ⟨‹_›, h⟩

/-- The beginning of a cycle answers the reset state, or the state after the clock edge with the word of the bus. -/
theorem beginCycle_next {rst : Bool} {b : Bus} {s t : State} (h : s.beginCycle rst b = .next t) :
    (rst = true ∧ t = s.resetCycle) ∨
      (rst = false ∧ (b.re && b.we) = false ∧ t = { s.clkEdge with event := b.word, phase := .push }) := by
  unfold State.beginCycle at h
  split_ifs at h with h1 h2
  · exact .inl ⟨h1, by cases h; rfl⟩
  · exact .inr ⟨by simpa using h1, by simpa using h2, by cases h; rfl⟩

theorem producerEdge_next {start : Option Byte} {s t : State} (h : s.producerEdge start = .next t) :
    (start = none ∧ t = { s with pushPort := s.pushPort.senderEdge }) ∨
      (∃ b, start = some b ∧ s.pushPort.free = true ∧
        t = { s with pushPort := s.pushPort.senderEdge.start, push_data := b }) := by
  unfold State.producerEdge at h
  cases start with
  | none => exact .inl ⟨rfl, by cases h; rfl⟩
  | some b =>
    simp only at h
    split_ifs at h with hf
    exact .inr ⟨b, rfl, hf, by cases h; rfl⟩

theorem tickGenEdge_next {start : Bool} {s t : State} (h : s.tickGenEdge start = .next t) :
    (start = false ∧ t = { s with tickPort := s.tickPort.senderEdge }) ∨
      (start = true ∧ s.tickPort.free = true ∧ t = { s with tickPort := s.tickPort.senderEdge.start }) := by
  unfold State.tickGenEdge at h
  split_ifs at h with h1 h2
  · exact .inr ⟨h1, h2, by cases h; rfl⟩
  · exact .inl ⟨by simpa using h1, by cases h; rfl⟩

/-- Everything a step without a waiting event can do. -/
theorem advance_next {s t : State} (h : s.advance = .next t) :
    (s.phase = .push ∧ t = s.pushStep) ∨ (s.phase = .tick ∧ t = s.tickStep) ∨
      (s.phase = .cycle ∧
        ((s.inputs = [] ∧ s.beginCycle false Bus.idle = .next t) ∨
          (∃ rst b rest, s.inputs = .clk rst b :: rest ∧ { s with inputs := rest }.beginCycle rst b = .next t) ∨
          (∃ o rest, s.inputs = .producerClk o :: rest ∧ { s with inputs := rest }.producerEdge o = .next t) ∨
          (∃ o rest, s.inputs = .tickGenClk o :: rest ∧ { s with inputs := rest }.tickGenEdge o = .next t))) := by
  unfold State.advance at h
  split at h
  · refine .inr (.inr ⟨‹_›, ?_⟩)
    unfold State.takeInput at h
    split at h
    · exact .inl ⟨‹_›, h⟩
    · exact .inr (.inl ⟨_, _, _, ‹_›, h⟩)
    · exact .inr (.inr (.inl ⟨_, _, ‹_›, h⟩))
    · exact .inr (.inr (.inr ⟨_, _, ‹_›, h⟩))
  · exact .inl ⟨‹_›, by cases h; rfl⟩
  · exact .inr (.inl ⟨‹_›, by cases h; rfl⟩)

/-! The handshakes. -/

/-- A request presented with its word is pending, and is the only one under way. -/
theorem Port.requested_pending (p : Port) : p.requested.pending = true := by
  cases p with | mk r q a k => cases a <;> rfl

theorem Port.requested_inv (p : Port) : p.requested.Inv := by
  cases p with | mk r q a k => cases a <;> simp [Port.Inv, Port.requested, Port.toggles, changes]

end Sys2Proof.Machine
end

