-- ==== Sys2Proof/Laws/PerInstr.lean ====
section
/-! SUPPORT. Families of facts about the event as syntax, one lemma per constructor. -/

namespace Sys2Proof.Laws.CanonicalWord

/-- The encoder writes the one spelling of an event: RSV and the must-be-zero fields are 0 (30_encoding.md R70, R79). -/
def Statement (i : Instr) : Prop :=
  rsvOf (encode i) = 0#1 ∧ (kindOf (encode i) = kindRead → dataOf (encode i) = 0) ∧
    (kindOf (encode i) = kindPush → addrOf (encode i) = 0) ∧
    (kindOf (encode i) = kindTick → addrOf (encode i) = 0 ∧ dataOf (encode i) = 0)

/-- The fields of a word made from its fields, so the four formats once. -/
theorem of_fields {i : Instr} {k : BitVec 2} {a : Addr} {d : Byte} (h : encode i = eventWord k a d)
    (hr : k = kindRead → d = 0) (hp : k = kindPush → a = 0) (ht : k = kindTick → a = 0 ∧ d = 0) : Statement i := by
  unfold Statement
  rw [h, rsvOf_eventWord, kindOf_eventWord, addrOf_eventWord, dataOf_eventWord]
  exact ⟨rfl, hr, hp, ht⟩

theorem of_read {i : Instr} {a : Addr} (h : encode i = eventWord kindRead a 0) : Statement i :=
  of_fields h (fun _ => rfl) (fun h => absurd h (by decide)) (fun h => absurd h (by decide))

theorem of_write {i : Instr} {a : Addr} {d : Byte} (h : encode i = eventWord kindWrite a d) : Statement i :=
  of_fields h (fun h => absurd h (by decide)) (fun h => absurd h (by decide)) (fun h => absurd h (by decide))

theorem of_push {i : Instr} {b : Byte} (h : encode i = eventWord kindPush 0 b) : Statement i :=
  of_fields h (fun h => absurd h (by decide)) (fun _ => rfl) (fun h => absurd h (by decide))

theorem of_tick {i : Instr} (h : encode i = eventWord kindTick 0 0) : Statement i :=
  of_fields h (fun _ => rfl) (fun _ => rfl) (fun _ => ⟨rfl, rfl⟩)

theorem rdStatus : Statement .rdStatus := of_read rfl
theorem rdRxdata : Statement .rdRxdata := of_read rfl
theorem rdCount : Statement .rdCount := of_read rfl
theorem rdCapacity : Statement .rdCapacity := of_read rfl
theorem rdCtrl : Statement .rdCtrl := of_read rfl
theorem rdCmd : Statement .rdCmd := of_read rfl
theorem rdFlags : Statement .rdFlags := of_read rfl
theorem rdFastRatio : Statement .rdFastRatio := of_read rfl
theorem rdMedRatio : Statement .rdMedRatio := of_read rfl
theorem rdSlowRatio : Statement .rdSlowRatio := of_read rfl
theorem rdFastDiv : Statement .rdFastDiv := of_read rfl
theorem rdMedDiv : Statement .rdMedDiv := of_read rfl
theorem rdSlowDiv : Statement .rdSlowDiv := of_read rfl
theorem rdTick0 : Statement .rdTick0 := of_read rfl
theorem rdTick1 : Statement .rdTick1 := of_read rfl
theorem rdTick2 : Statement .rdTick2 := of_read rfl
theorem rdTick3 : Statement .rdTick3 := of_read rfl
theorem rdRsvd07 : Statement .rdRsvd07 := of_read rfl
theorem rdRsvd0B : Statement .rdRsvd0B := of_read rfl
theorem rdRsvd0F : Statement .rdRsvd0F := of_read rfl
theorem rdRsvd14to17 (a : Addr) : Statement (.rdRsvd14to17 a) := of_read rfl
theorem rdRsvd18to1F (a : Addr) : Statement (.rdRsvd18to1F a) := of_read rfl
theorem wrStatus (d : Byte) : Statement (.wrStatus d) := of_write rfl
theorem wrRxdata (d : Byte) : Statement (.wrRxdata d) := of_write rfl
theorem wrCount (d : Byte) : Statement (.wrCount d) := of_write rfl
theorem wrCapacity (d : Byte) : Statement (.wrCapacity d) := of_write rfl
theorem wrCtrl (d : Byte) : Statement (.wrCtrl d) := of_write rfl
theorem wrCmd (d : Byte) : Statement (.wrCmd d) := of_write rfl
theorem wrFlags (d : Byte) : Statement (.wrFlags d) := of_write rfl
theorem wrFastRatio (d : Byte) : Statement (.wrFastRatio d) := of_write rfl
theorem wrMedRatio (d : Byte) : Statement (.wrMedRatio d) := of_write rfl
theorem wrSlowRatio (d : Byte) : Statement (.wrSlowRatio d) := of_write rfl
theorem wrFastDiv (d : Byte) : Statement (.wrFastDiv d) := of_write rfl
theorem wrMedDiv (d : Byte) : Statement (.wrMedDiv d) := of_write rfl
theorem wrSlowDiv (d : Byte) : Statement (.wrSlowDiv d) := of_write rfl
theorem wrTick0 (d : Byte) : Statement (.wrTick0 d) := of_write rfl
theorem wrTick1 (d : Byte) : Statement (.wrTick1 d) := of_write rfl
theorem wrTick2 (d : Byte) : Statement (.wrTick2 d) := of_write rfl
theorem wrTick3 (d : Byte) : Statement (.wrTick3 d) := of_write rfl
theorem wrRsvd07 (d : Byte) : Statement (.wrRsvd07 d) := of_write rfl
theorem wrRsvd0B (d : Byte) : Statement (.wrRsvd0B d) := of_write rfl
theorem wrRsvd0F (d : Byte) : Statement (.wrRsvd0F d) := of_write rfl
theorem wrRsvd14to17 (a : Addr) (d : Byte) : Statement (.wrRsvd14to17 a d) := of_write rfl
theorem wrRsvd18to1F (a : Addr) (d : Byte) : Statement (.wrRsvd18to1F a d) := of_write rfl
theorem push (b : Byte) : Statement (.push b) := of_push rfl
theorem tick : Statement .tick := of_tick rfl

end Sys2Proof.Laws.CanonicalWord
end

