-- ==== Sys2Proof/Tests/Slice0.lean ====
section
/-! SUPPORT. Tests. Expected values are from spec/95_test_vectors.md (VD, VF, VT, VC, VR, P) or from the example of the
rule named. The theorems `witness_…` show, for each statement with hypotheses, inputs that meet them. -/

namespace Sys2Proof.Tests

open Sys2Proof.Machine

/-! # Helpers -/

/-- The reset state with CAP = 4, the vectors' convention. -/
def s4 : State := State.resetWith 4 0 []

/-- CAP = 4, with the given array, indices and count. -/
def withFifo (x : List Host.Cell) (rd wr count : Byte) : State :=
  { s4 with fifo := { s4.fifo with x := x, rd_idx := rd, wr_idx := wr, count := count } }

/-- The end of VF2: full, with 0x41 oldest. -/
def full4 : State := withFifo [(0, 0x41), (1, 0x42), (2, 0x43), (3, 0x44)] 0 0 4

/-- Three unread bytes, the next push at entry 3. -/
def three : State := withFifo [(0, 0x41), (1, 0x42), (2, 0x43)] 0 3 3

/-- One unread byte at the last entry. -/
def last : State := withFifo [(3, 0x44)] 3 0 1

/-- The reset state with the given dividers and flags. -/
def withTick (cnt : Count) (f m l : Byte) (fd md sd : Bool) : State :=
  { s4 with
    tick :=
      { s4.tick with tick_cnt := cnt, div_f := f, div_m := m, div_s := l, f_due := fd, m_due := md, s_due := sd } }

/-- The enables set to the given values. -/
def enabled (rx tk : Bool) (s : State) : State := { s with ctrl := { rx_en := rx, tick_en := tk } }

/-- A port with a request pending, and one at rest. -/
def pendingPort : Port := Port.reset.requested

/-- The next state, if there is one. -/
def after (o : Outcome) : Option State :=
  match o with
  | .next t => some t
  | _ => none

/-- The refusal, if there is one. -/
def refusal (o : Outcome) : Option Refusal :=
  match o with
  | .refused r => some r
  | _ => none

/-- The byte a bus read returns. -/
def rdata (i : Instr) (s : State) : Option Byte := (after (exec i s)).map fun t => t.bus_rdata

/-- `i` leaves `s` as it is, but for the byte that a read returns. -/
abbrev keeps (i : Instr) (s : State) : Prop :=
  (after (exec i s)).map (fun t => { t with bus_rdata := s.bus_rdata }) = some s

/-- The wires of a cycle with a bus read, and with a bus write. -/
def readBus (a : Addr) : Bus := { re := true, we := false, addr := a, wdata := 0 }
def writeBus (a : Addr) (d : Byte) : Bus := { re := false, we := true, addr := a, wdata := d }

/-- The states `s4` and `full4` meet the FIFO's invariant. -/
theorem s4_inv : s4.Inv :=
  ⟨⟨by decide, by decide, by decide, by decide, by decide, by decide, by decide, by decide, by decide⟩,
    ⟨by decide, by decide, by decide⟩⟩
theorem full4_inv : full4.Inv :=
  ⟨⟨by decide, by decide, by decide, by decide, by decide, by decide, by decide, by decide, by decide⟩,
    ⟨by decide, by decide, by decide⟩⟩
theorem last_inv : last.Inv :=
  ⟨⟨by decide, by decide, by decide, by decide, by decide, by decide, by decide, by decide, by decide⟩,
    ⟨by decide, by decide, by decide⟩⟩

/-! # Well-formedness (R76's groups of reserved addresses) -/

theorem test_wellFormed_refuses_rdRsvd14to17_below : (Instr.rdRsvd14to17 0x13).wellFormed = false := by decide
theorem test_wellFormed_refuses_rdRsvd14to17_above : (Instr.rdRsvd14to17 0x18).wellFormed = false := by decide
theorem test_wellFormed_refuses_rdRsvd18to1F_below : (Instr.rdRsvd18to1F 0x17).wellFormed = false := by decide
theorem test_wellFormed_refuses_wrRsvd14to17_below : (Instr.wrRsvd14to17 0x13 0xFF).wellFormed = false := by decide
theorem test_wellFormed_refuses_wrRsvd14to17_above : (Instr.wrRsvd14to17 0x18 0xFF).wellFormed = false := by decide
theorem test_wellFormed_refuses_wrRsvd18to1F_below : (Instr.wrRsvd18to1F 0x17 0xFF).wellFormed = false := by decide

/-! # Decoding: the words of R76's table, and for each format one word bit by bit -/

/-- KIND 00, RSV 0, ADDR 00001, DATA 0 (R71). -/
theorem test_decode_bits_read : decode 0b0000000100000000 = .ok .rdRxdata := by decide
/-- KIND 01, RSV 0, ADDR 01010, DATA 10000001 (R72). -/
theorem test_decode_bits_write : decode 0b0100101010000001 = .ok (.wrSlowRatio 0b10000001) := by decide
/-- KIND 10, RSV 0, ADDR 0, DATA 01010110 (R73). -/
theorem test_decode_bits_push : decode 0b1000000001010110 = .ok (.push 0b01010110) := by decide
/-- KIND 11, the rest 0 (R74). -/
theorem test_decode_bits_tick : decode 0b1100000000000000 = .ok .tick := by decide

theorem test_decode_reads_fifo :
    decode 0x0000 = .ok .rdStatus ∧ decode 0x0100 = .ok .rdRxdata ∧ decode 0x0200 = .ok .rdCount ∧
      decode 0x0300 = .ok .rdCapacity := by decide
theorem test_decode_reads_control :
    decode 0x0400 = .ok .rdCtrl ∧ decode 0x0500 = .ok .rdCmd ∧ decode 0x0600 = .ok .rdFlags := by decide
theorem test_decode_reads_ratio :
    decode 0x0800 = .ok .rdFastRatio ∧ decode 0x0900 = .ok .rdMedRatio ∧ decode 0x0A00 = .ok .rdSlowRatio := by decide
theorem test_decode_reads_divider :
    decode 0x0C00 = .ok .rdFastDiv ∧ decode 0x0D00 = .ok .rdMedDiv ∧ decode 0x0E00 = .ok .rdSlowDiv := by decide
theorem test_decode_reads_counter :
    decode 0x1000 = .ok .rdTick0 ∧ decode 0x1100 = .ok .rdTick1 ∧ decode 0x1200 = .ok .rdTick2 ∧
      decode 0x1300 = .ok .rdTick3 := by decide
theorem test_decode_reads_reserved :
    decode 0x0700 = .ok .rdRsvd07 ∧ decode 0x0B00 = .ok .rdRsvd0B ∧ decode 0x0F00 = .ok .rdRsvd0F ∧
      decode 0x1400 = .ok (.rdRsvd14to17 0x14) ∧ decode 0x1700 = .ok (.rdRsvd14to17 0x17) ∧
      decode 0x1800 = .ok (.rdRsvd18to1F 0x18) ∧ decode 0x1F00 = .ok (.rdRsvd18to1F 0x1F) := by decide
theorem test_decode_writes_fifo :
    decode 0x40FF = .ok (.wrStatus 0xFF) ∧ decode 0x4143 = .ok (.wrRxdata 0x43) ∧
      decode 0x4200 = .ok (.wrCount 0x00) ∧ decode 0x4310 = .ok (.wrCapacity 0x10) := by decide
theorem test_decode_writes_control :
    decode 0x4403 = .ok (.wrCtrl 0x03) ∧ decode 0x4501 = .ok (.wrCmd 0x01) ∧ decode 0x4607 = .ok (.wrFlags 0x07) := by
  decide
theorem test_decode_writes_ratio :
    decode 0x4802 = .ok (.wrFastRatio 0x02) ∧ decode 0x4902 = .ok (.wrMedRatio 0x02) ∧
      decode 0x4A02 = .ok (.wrSlowRatio 0x02) := by decide
theorem test_decode_writes_divider :
    decode 0x4C00 = .ok (.wrFastDiv 0x00) ∧ decode 0x4D09 = .ok (.wrMedDiv 0x09) ∧
      decode 0x4E09 = .ok (.wrSlowDiv 0x09) := by decide
theorem test_decode_writes_counter :
    decode 0x5000 = .ok (.wrTick0 0x00) ∧ decode 0x51FF = .ok (.wrTick1 0xFF) ∧
      decode 0x5201 = .ok (.wrTick2 0x01) ∧ decode 0x5380 = .ok (.wrTick3 0x80) := by decide
theorem test_decode_writes_reserved :
    decode 0x47FF = .ok (.wrRsvd07 0xFF) ∧ decode 0x4B00 = .ok (.wrRsvd0B 0x00) ∧ decode 0x4F01 = .ok (.wrRsvd0F 0x01) ∧
      decode 0x5501 = .ok (.wrRsvd14to17 0x15 0x01) ∧ decode 0x5FFF = .ok (.wrRsvd18to1F 0x1F 0xFF) := by decide
theorem test_decode_ports :
    decode 0x8000 = .ok (.push 0x00) ∧ decode 0x8056 = .ok (.push 0x56) ∧ decode 0xC000 = .ok .tick := by decide
/-- VD2, VD3, VD4, VD13, VD14, VD16, VD17, VD18. -/
theorem test_decode_refuses :
    decode 0x0001 = .error .readCarriesData ∧ decode 0x2000 = .error .reservedBitSet ∧
      decode 0x6000 = .error .reservedBitSet ∧ decode 0x8156 = .error .pushCarriesAddress ∧
      decode 0xA056 = .error .reservedBitSet ∧ decode 0xC001 = .error .tickCarriesOperand ∧
      decode 0xC100 = .error .tickCarriesOperand ∧ decode 0xFFFF = .error .reservedBitSet := by decide
theorem test_decodeTableWord :
    decodeTableWord 16 0x4501 = some (.wrCmd 0x01) ∧ decodeTableWord 16 0xA056 = none := by decide

/-! # The FIFO -/

/-- R100's example: the last entry is written and the index wraps. -/
theorem test_push_wraps :
    (after (exec (.push 0x41) three)).map (fun t => (Memory.read t.fifo.x 3, t.fifo.wr_idx, t.fifo.count)) =
      some (some 0x41, 0, 4) := by decide
/-- VF2: at full the byte is discarded and the handshake acknowledged. -/
theorem test_push_full_discards :
    (after (exec (.push 0x45) full4)).map (fun t => (t.fifo, t.pushPort.ack)) = some (full4.fifo, true) := by decide
/-- VF8: a push is held while rx_en = 0. -/
theorem test_push_held : after (exec (.push 0x41) (enabled false true s4)) = some (enabled false true s4) := by decide
/-- VF4: CAP = 1 wraps at once. -/
theorem test_push_capacity_one :
    (after (exec (.push 0xAA) (State.resetWith 1 0 []))).map (fun t => (t.fifo.wr_idx, t.fifo.count)) =
      some (0, 1) := by decide
/-- R101's example. -/
theorem test_rdStatus : rdata .rdStatus s4 = some 0x00 ∧ rdata .rdStatus three = some 0x01 := by decide
/-- P2 step 11: the pop of the last entry wraps rd_idx. -/
theorem test_rdRxdata_wraps :
    (after (exec .rdRxdata last)).map (fun t => (t.bus_rdata, t.fifo.rd_idx, t.fifo.count)) = some (0x44, 0, 0) := by
  decide
/-- VF1: empty. -/
theorem test_rdRxdata_empty : rdata .rdRxdata s4 = some 0x00 ∧ keeps .rdRxdata s4 := by decide
/-- VF2, VF1. -/
theorem test_rdCount : rdata .rdCount full4 = some 0x04 ∧ rdata .rdCount s4 = some 0x00 := by decide
theorem test_rdCapacity : rdata .rdCapacity s4 = some 0x04 ∧ keeps .rdCapacity s4 := by decide
/-- VF11. -/
theorem test_ignored_fifo_writes :
    keeps (.wrStatus 0xFF) three ∧ keeps (.wrRxdata 0x43) s4 ∧ keeps (.wrCount 0x00) three ∧
      keeps (.wrCapacity 0x10) three := by decide
/-- R111's example. -/
theorem test_flush :
    (after (exec (.wrCmd 0x01) (enabled false false (withFifo [(2, 1), (3, 2), (0, 3)] 2 1 3)))).map
        (fun t => (t.fifo.rd_idx, t.fifo.wr_idx, t.fifo.count, t.ctrl.rx_en, t.ctrl.tick_en)) =
      some (0, 0, 0, true, false) := by decide
/-- VF10. -/
theorem test_cmd_bit0_clear : keeps (.wrCmd 0xFE) (enabled false true three) := by decide

/-! # The tick source -/

/-- VT1: the fifth tick. -/
theorem test_tick_fast_rollover :
    (after (exec .tick (withTick 4 4 0 0 false false false))).map (fun t => t.tick) =
      some (withTick 5 0 1 0 true false false).tick := by decide
/-- VT2, row 500: all three levels roll over in one tick. -/
theorem test_tick_all_rollovers :
    (after (exec .tick (withTick 499 4 9 9 true true false))).map (fun t => t.tick) =
      some (withTick 500 0 0 0 true true true).tick := by decide
/-- VT12: the counter wraps. -/
theorem test_tick_counter_wraps :
    (after (exec .tick (withTick 0xFFFFFFFF 0 9 5 true true true))).map (fun t => t.tick) =
      some (withTick 0 1 9 5 true true true).tick := by decide
/-- VT16: held. -/
theorem test_tick_held : after (exec .tick (enabled true false s4)) = some (enabled true false s4) := by decide
/-- VT2, row 50; the read clears nothing. -/
theorem test_rdFlags :
    rdata .rdFlags (withTick 50 0 0 1 true true false) = some 0x03 ∧
      keeps .rdFlags (withTick 50 0 0 1 true true false) := by decide
/-- VT11. -/
theorem test_wrFlags :
    (after (exec (.wrFlags 0x01) (withTick 500 0 0 0 true true true))).map (fun t => t.tick) =
      some (withTick 500 0 0 0 false true true).tick ∧
    keeps (.wrFlags 0xF8) (withTick 500 0 0 0 false true true) := by decide
/-- VT17. -/
theorem test_rd_ratios :
    rdata .rdFastRatio s4 = some 0x05 ∧ rdata .rdMedRatio s4 = some 0x0A ∧ rdata .rdSlowRatio s4 = some 0x0A := by
  decide
/-- P6, steps 2 to 4. -/
theorem test_wr_ratios :
    (after (exec (.wrFastRatio 0x02) s4)).map (fun t => t.tick) = some { s4.tick with ratio_f := 2 } ∧
    (after (exec (.wrMedRatio 0x02) s4)).map (fun t => t.tick) = some { s4.tick with ratio_m := 2 } ∧
    (after (exec (.wrSlowRatio 0x02) s4)).map (fun t => t.tick) = some { s4.tick with ratio_s := 2 } := by decide
/-- VT6: a ratio lowered below the divider. -/
theorem test_ratio_lowered :
    (eventRun (withTick 3 3 0 0 false false false) [.wrFastRatio 0x02, .tick]).map
        (fun r => (r.1.tick.div_f, r.1.tick.f_due, r.1.tick.div_m)) = some (0, true, 1) := by decide
/-- VT2, rows 23 and 120. -/
theorem test_rd_dividers :
    rdata .rdFastDiv (withTick 23 3 4 0 true false false) = some 0x03 ∧
      rdata .rdMedDiv (withTick 23 3 4 0 true false false) = some 0x04 ∧
      rdata .rdSlowDiv (withTick 120 0 4 2 true true false) = some 0x02 := by decide
/-- VT17, R161, R163. -/
theorem test_ignored_divider_writes :
    keeps (.wrFastDiv 0x00) (withTick 3 3 2 1 false false false) ∧
      keeps (.wrMedDiv 0x09) (withTick 3 3 2 1 false false false) ∧
      keeps (.wrSlowDiv 0x09) (withTick 3 3 2 1 false false false) := by decide
/-- VT14. -/
theorem test_rd_counter :
    (eventRun (withTick 0x12345678 0 0 0 false false false) [.rdTick0]).map
        (fun r => (r.1.bus_rdata, rdata .rdTick1 r.1, rdata .rdTick2 r.1, rdata .rdTick3 r.1)) =
      some (0x78, some 0x56, some 0x34, some 0x12) := by decide
/-- VT15. -/
theorem test_rdTick1_before_any_latch : rdata .rdTick1 (withTick 0x12C 0 0 6 false false false) = some 0x00 := by decide
/-- VT19. -/
theorem test_ignored_counter_writes :
    keeps (.wrTick0 0x00) (withTick 7 2 1 0 true false false) ∧ keeps (.wrTick1 0xFF) (withTick 7 2 1 0 true false false) ∧
      keeps (.wrTick2 0x01) (withTick 7 2 1 0 true false false) ∧
      keeps (.wrTick3 0x80) (withTick 7 2 1 0 true false false) := by decide

/-! # Control -/

/-- VC1. -/
theorem test_rdCtrl :
    rdata .rdCtrl s4 = some 0x03 ∧ rdata .rdCtrl (enabled false true s4) = some 0x02 ∧
      rdata .rdCtrl (enabled true false s4) = some 0x01 := by decide
theorem test_wrCtrl :
    after (exec (.wrCtrl 0x02) s4) = some (enabled false true s4) ∧
      after (exec (.wrCtrl 0xFF) s4) = some (enabled true true s4) := by decide
/-- VF10, VC2. -/
theorem test_rd_zero :
    rdata .rdCmd full4 = some 0x00 ∧ rdata .rdRsvd07 full4 = some 0x00 ∧ rdata .rdRsvd0B full4 = some 0x00 ∧
      rdata .rdRsvd0F full4 = some 0x00 ∧ rdata (.rdRsvd14to17 0x14) full4 = some 0x00 ∧
      rdata (.rdRsvd18to1F 0x1F) full4 = some 0x00 := by decide
/-- VC2. -/
theorem test_ignored_reserved_writes :
    keeps (.wrRsvd07 0xFF) (withTick 500 0 0 0 true true true) ∧ keeps (.wrRsvd0B 0x00) full4 ∧
      keeps (.wrRsvd0F 0x01) full4 ∧ keeps (.wrRsvd14to17 0x15 0x01) full4 ∧
      keeps (.wrRsvd18to1F 0x1F 0xFF) full4 := by decide

/-! # Steps and cycles -/

/-- The host's question: a table word presented after reset is decoded and run by the very next step, whatever CAP is. -/
theorem test_reset_runs_push : ∃ t, step (State.reset.withFetchWord 16 0x8041) = .next t ∧ t.fifo.count = 1 := ⟨_, rfl, rfl⟩
theorem test_reset_runs_tick : ∃ t, step (State.reset.withFetchWord 16 0xC000) = .next t ∧ t.tick.tick_cnt = 1 := ⟨_, rfl, rfl⟩
theorem test_reset_runs_rdCtrl : ∃ t, step (State.reset.withFetchWord 16 0x0400) = .next t ∧ t.bus_rdata = 3 := ⟨_, rfl, rfl⟩
/-- VF5: pop and push in one cycle at full; VF6: pop of empty and push in one cycle. -/
theorem test_cycle_pop_and_push :
    (after (wholeCycle (some 0x0100) { full4 with pushPort := pendingPort, push_data := 0x45 })).map
        (fun t => (t.bus_rdata, Memory.read t.fifo.x 0, t.fifo.wr_idx, t.fifo.count)) = some (0x41, some 0x45, 1, 4) ∧
    (after (wholeCycle (some 0x0100) { s4 with pushPort := pendingPort, push_data := 0x41 })).map
        (fun t => (t.bus_rdata, Memory.read t.fifo.x 0, t.fifo.wr_idx, t.fifo.count)) = some (0, some 0x41, 1, 1) := by
  decide
/-- VT8: a clear and a rollover in one cycle; VT13: a latch and a tick in one cycle. -/
theorem test_cycle_bus_before_tick :
    (after (wholeCycle (some 0x4601) { withTick 9 4 1 0 true false false with tickPort := pendingPort })).map
        (fun t => t.tick) = some (withTick 10 0 2 0 true false false).tick ∧
    (after (wholeCycle (some 0x1000) { withTick 5 0 1 0 true false false with tickPort := pendingPort })).map
        (fun t => (t.bus_rdata, t.tick.tick_snap, t.tick.tick_cnt)) = some (5, 5, 6) := by decide
/-- VF7: flush and pending push in one cycle, with rx_en = 0 before it. -/
theorem test_cycle_flush_and_push :
    (after (wholeCycle (some 0x4501)
        { enabled false true (withFifo [(2, 1), (3, 2), (0, 3)] 2 1 3) with
          pushPort := pendingPort, push_data := 0x5A })).map
        (fun t => (t.fifo.queue, t.fifo.wr_idx, t.ctrl.rx_en)) = some ([0x5A], 1, true) := by decide
/-- VR1: reset from an active state. -/
theorem test_reset_cycle :
    after (step { enabled false false three with inputs := [.clk true (readBus 0x01)] }) =
      some (State.resetWith 4 1 []) := by decide

/-! # Witnesses: inputs that meet the hypotheses of each statement -/

theorem witness_DecodeOfEncodeIsTheEvent :
    (Instr.rdRsvd14to17 0x14).wellFormed = true ∧ (Instr.rdRsvd14to17 0x17).wellFormed = true ∧
      (Instr.rdRsvd18to1F 0x18).wellFormed = true ∧ (Instr.wrRsvd14to17 0x17 0xFF).wellFormed = true ∧
      (Instr.wrRsvd18to1F 0x1F 0x00).wellFormed = true ∧ (Instr.push 0xFF).wellFormed = true := by decide

theorem witness_EncodeOfDecodeIsTheWord : decode 0x57FF = .ok (.wrRsvd14to17 0x17 0xFF) := by decide

theorem witness_IllegalWordsAreRefused_words :
    let s := { s4 with event := some 0x2000 }
    s.event = some 0x2000 ∧ decode 0x2000 = .error .reservedBitSet := by decide
theorem witness_IllegalWordsAreRefused_strobes :
    let b : Bus := { re := true, we := true, addr := 0, wdata := 0 }
    let s := { s4 with inputs := [.clk false b] }
    s.event = none ∧ s.phase = .cycle ∧ s.inputs = .clk false b :: [] ∧ b.re = true ∧ b.we = true := by decide

theorem witness_BusCyclesSpellTheirWords_read :
    let s := { s4 with inputs := [.clk false (readBus 0x1F)] }
    s.event = none ∧ s.phase = .cycle ∧ s.inputs = .clk false (readBus 0x1F) :: [] ∧ (readBus 0x1F).re = true ∧
      (readBus 0x1F).we = false := by decide
theorem witness_BusCyclesSpellTheirWords_write :
    let s := { s4 with inputs := [.clk false (writeBus 0x1F 0xFF)] }
    s.event = none ∧ s.phase = .cycle ∧ s.inputs = .clk false (writeBus 0x1F 0xFF) :: [] ∧
      (writeBus 0x1F 0xFF).re = false ∧ (writeBus 0x1F 0xFF).we = true := by decide
theorem witness_BusCyclesSpellTheirWords_idle :
    let s := { s4 with inputs := [.clk false Bus.idle] }
    s.event = none ∧ s.phase = .cycle ∧ s.inputs = .clk false Bus.idle :: [] ∧ Bus.idle.re = false ∧
      Bus.idle.we = false := by decide

theorem witness_StepPerformsTheWaitingEvent :
    let s := { s4 with event := some 0x8041 }
    s.event = some 0x8041 ∧ decode 0x8041 = .ok (.push 0x41) := by decide

theorem witness_FetchWordIsPerformedNext :
    decode 0x80FF = .ok (.push 0xFF) ∧ decode 0xC000 = .ok .tick ∧ decode 0x0000 = .ok .rdStatus := by decide

/-- A cycle with a bus event, a pending push and a pending tick; and one with none of them. -/
theorem witness_CycleIsBusThenPushThenTick :
    let s := { full4 with pushPort := pendingPort, tickPort := pendingPort, inputs := [.clk false (readBus 0x01)] }
    s.event = none ∧ s.phase = .cycle ∧ s.inputs = .clk false (readBus 0x01) :: [] ∧
      ((readBus 0x01).re && (readBus 0x01).we) = false := by decide
theorem witness_CycleIsBusThenPushThenTick_idle :
    let s := { s4 with inputs := [.clk false Bus.idle] }
    s.event = none ∧ s.phase = .cycle ∧ s.inputs = .clk false Bus.idle :: [] ∧ (Bus.idle.re && Bus.idle.we) = false := by
  decide

/-- The cycle that `clk` runs with no input left, with a push and a tick pending. -/
theorem witness_CycleIsBusThenPushThenTick_no_input :
    let s := { full4 with pushPort := pendingPort, tickPort := pendingPort }
    s.event = none ∧ s.phase = .cycle ∧ s.inputs = [] := by decide

theorem witness_PendingPushBecomesTheEvent_step :
    let s := { s4 with pushPort := pendingPort, phase := .push }
    s.event = none ∧ s.phase = .push ∧ s.pushPort.reqSync.second ≠ s.pushPort.ack ∧ s.ctrl.rx_en = true := by decide
theorem witness_PendingPushBecomesTheEvent_event :
    s4.ctrl.rx_en = true ∧ ∃ t, exec (.push 0x00) s4 = .next t := ⟨rfl, _, rfl⟩
theorem witness_PendingPushBecomesTheEvent_bus : (writeBus 0x01 0x43).word = some 0x4143 := by decide

theorem witness_PendingTickBecomesTheEvent_step :
    let s := { s4 with tickPort := pendingPort, phase := .tick }
    s.event = none ∧ s.phase = .tick ∧ s.tickPort.reqSync.second ≠ s.tickPort.ack ∧ s.ctrl.tick_en = true := by decide
theorem witness_PendingTickBecomesTheEvent_event : s4.ctrl.tick_en = true ∧ ∃ t, exec .tick s4 = .next t := ⟨rfl, _, rfl⟩
theorem witness_PendingTickBecomesTheEvent_bus : (readBus 0x10).word = some 0x1000 := by decide

theorem witness_SendersStartOneRequestAtATime_push :
    let s := { s4 with inputs := [.producerClk (some 0xFF)] }
    s.event = none ∧ s.phase = .cycle ∧ s.inputs = .producerClk (some 0xFF) :: [] ∧
      s.pushPort.ackSync.second = s.pushPort.req := by decide
theorem witness_SendersStartOneRequestAtATime_push_breach :
    let s := { s4 with pushPort := pendingPort, inputs := [.producerClk (some 0xFF)] }
    s.event = none ∧ s.phase = .cycle ∧ s.inputs = .producerClk (some 0xFF) :: [] ∧
      s.pushPort.ackSync.second ≠ s.pushPort.req := by decide
theorem witness_SendersStartOneRequestAtATime_tick :
    let s := { s4 with inputs := [.tickGenClk true] }
    s.event = none ∧ s.phase = .cycle ∧ s.inputs = .tickGenClk true :: [] ∧
      s.tickPort.ackSync.second = s.tickPort.req := by decide
theorem witness_SendersStartOneRequestAtATime_tick_breach :
    let s := { s4 with tickPort := pendingPort, inputs := [.tickGenClk true] }
    s.event = none ∧ s.phase = .cycle ∧ s.inputs = .tickGenClk true :: [] ∧
      s.tickPort.ackSync.second ≠ s.tickPort.req := by decide

theorem witness_SendersStartOneRequestAtATime_no_start :
    let s := { s4 with pushPort := pendingPort.acknowledge, inputs := [.producerClk none] }
    let r := { s4 with tickPort := pendingPort.acknowledge, inputs := [.tickGenClk false] }
    s.event = none ∧ s.phase = .cycle ∧ s.inputs = .producerClk none :: [] ∧
      r.event = none ∧ r.phase = .cycle ∧ r.inputs = .tickGenClk false :: [] := by decide

theorem witness_StartedPushArrivesInTheSecondCycle :
    let s := { enabled true false s4 with pushPort := Port.reset.start, push_data := 0x41 }
    s.event = none ∧ s.phase = .cycle ∧ s.inputs = [] ∧ s.ctrl.rx_en = true ∧ s.ctrl.tick_en = false ∧
      s.pushPort.req ≠ s.pushPort.ack ∧ s.pushPort.reqSync.first = s.pushPort.ack ∧
      s.pushPort.reqSync.second = s.pushPort.ack := by decide

theorem witness_ResetCycleResetsEveryField :
    let s := { full4 with inputs := [.clk true (writeBus 0x05 0x01)] }
    s.event = none ∧ s.phase = .cycle ∧ s.inputs = .clk true (writeBus 0x05 0x01) :: [] := by decide

theorem witness_PushHoldsDiscardsOrStores_held : (enabled false true full4).ctrl.rx_en = false := by decide
theorem witness_PushHoldsDiscardsOrStores_full :
    full4.ctrl.rx_en = true ∧ full4.fifo.count.toNat = full4.fifo.cap := by decide
theorem witness_PushHoldsDiscardsOrStores_stored :
    three.ctrl.rx_en = true ∧ three.fifo.count.toNat ≠ three.fifo.cap ∧ three.fifo.wr_idx.toNat < three.fifo.cap ∧
      three.fifo.wr_idx.toNat + 1 = three.fifo.cap := by decide
theorem witness_PushHoldsDiscardsOrStores_capacity_one :
    let s := State.resetWith 1 0 []
    s.ctrl.rx_en = true ∧ s.fifo.count.toNat ≠ s.fifo.cap ∧ s.fifo.wr_idx.toNat < s.fifo.cap := by decide

theorem witness_RxdataReadPopsTheOldestByte_empty :
    s4.event = none ∧ s4.fifo.count = 0 ∧ ∃ u, wholeCycle (some 0x0100) s4 = .next u := ⟨rfl, rfl, _, rfl⟩
theorem witness_RxdataReadPopsTheOldestByte_pop :
    last.fifo.count ≠ 0 ∧ last.fifo.rd_idx.toNat < last.fifo.cap ∧ last.fifo.rd_idx.toNat + 1 = last.fifo.cap ∧
      Memory.read last.fifo.x last.fifo.rd_idx.toNat = some 0x44 := by decide
theorem witness_RxdataReadPopsTheOldestByte_shared :
    let s := { s4 with pushPort := pendingPort, push_data := 0x41 }
    s.event = none ∧ s.fifo.count = 0 ∧ 1 ≤ s.fifo.cap ∧ s.ctrl.rx_en = true ∧
      s.pushPort.reqSync.second ≠ s.pushPort.ack ∧ (after (wholeCycle (some 0x0100) s)).isSome = true := by decide

theorem witness_IndexBeyondTheArrayFaults_push :
    let s := withFifo [] 0 4 0
    s.ctrl.rx_en = true ∧ s.fifo.count.toNat ≠ s.fifo.cap ∧ s.fifo.cap ≤ s.fifo.wr_idx.toNat := by decide
theorem witness_IndexBeyondTheArrayFaults_pop :
    let s := withFifo [] 4 0 1
    s.fifo.count ≠ 0 ∧ s.fifo.cap ≤ s.fifo.rd_idx.toNat := by decide

theorem witness_StatusReadsAvail :
    full4.event = none ∧ ∃ u, wholeCycle (some 0x0000) full4 = .next u := ⟨rfl, _, rfl⟩

theorem witness_CountReadsTheUnreadBytes : full4.fifo.Inv := full4_inv.fifo

/-- An ordinary step, and one with `rst` = 1. -/
theorem witness_CapacityIsConstant :
    (∃ t, step s4 = .next t) ∧ ∃ t, step { s4 with inputs := [.clk true Bus.idle] } = .next t := ⟨⟨_, rfl⟩, _, rfl⟩

theorem witness_FlushEmptiesAndEnables :
    (0x01 : Byte).getLsbD 0 = true ∧ (0xFE : Byte).getLsbD 0 = false ∧ 1 ≤ full4.fifo.cap ∧
      (after (exec (.wrCmd 0x01) full4)).isSome = true := by decide
/-- VF7: a push held at the port of a full FIFO with rx_en = 0. -/
theorem witness_FlushEmptiesAndEnables_shared :
    let s := { enabled false true full4 with pushPort := pendingPort, push_data := 0x5A }
    (0x01 : Byte).getLsbD 0 = true ∧ 1 ≤ s.fifo.cap ∧ s.pushPort.reqSync.second ≠ s.pushPort.ack ∧
      s.ctrl.rx_en = false := by decide

theorem witness_EventsActOnTheQueue :
    full4.fifo.Inv ∧ (∃ t, exec (.push 0x45) full4 = .next t) ∧ (∃ t, exec .rdRxdata full4 = .next t) ∧
      (∃ t, exec (.wrCmd 0x01) full4 = .next t) ∧ ∃ t, exec .tick full4 = .next t :=
  ⟨full4_inv.fifo, ⟨_, rfl⟩, ⟨_, rfl⟩, ⟨_, rfl⟩, _, rfl⟩

/-- A run with a stored byte, a pop and a pop of an empty FIFO. -/
def pushPop : List Instr := [.push 0x10, .rdRxdata, .rdRxdata, .push 0x20]

theorem witness_BytesComeOutInPushOrder :
    s4.fifo.Inv ∧ s4.fifo.count = 0 ∧ (∀ d, Instr.wrCmd d ∈ pushPop → d.getLsbD 0 = false) ∧
      ∃ t, eventRun s4 pushPop = some (t, [0x10], [0x10, 0x20]) :=
  ⟨s4_inv.fifo, rfl, by intro d h; simp [pushPop] at h, _, rfl⟩

theorem witness_OverflowDropsTheExcess_full :
    full4.fifo.count.toNat = full4.fifo.cap ∧ ∃ t, exec (.push 0x45) full4 = .next t := ⟨rfl, _, rfl⟩
theorem witness_OverflowDropsTheExcess_run :
    full4.fifo.Inv ∧ ∃ t, eventRun full4 [.push 0x45, .rdRxdata, .push 0x46] = some (t, [0x41], [0x46]) :=
  ⟨full4_inv.fifo, _, rfl⟩

theorem witness_UnwrittenEntriesAreNeverObserved :
    last.fifo.Inv ∧ ∃ t, exec .rdRxdata last = .next t := ⟨last_inv.fifo, _, rfl⟩
/-- Other bytes outside the queue of `last`, and at all entries of a FIFO that a FLUSH has emptied. -/
theorem witness_UnwrittenEntriesAreNeverObserved_outside_the_queue :
    Memory.wf [(0, (0x11 : Byte)), (2, 0x22), (3, 0x44)] ∧
      (∀ c ∈ [(0, (0x11 : Byte)), (2, 0x22), (3, 0x44)], c.1 < last.fifo.cap) ∧
      (∀ k < last.fifo.count.toNat,
        Memory.read [(0, (0x11 : Byte)), (2, 0x22), (3, 0x44)] ((last.fifo.rd_idx.toNat + k) % last.fifo.cap) =
          Memory.read last.fifo.x ((last.fifo.rd_idx.toNat + k) % last.fifo.cap)) := by decide
theorem witness_UnwrittenEntriesAreNeverObserved_flushed :
    (full4.setFifo full4.fifo.flush).fifo.Inv ∧ Memory.wf ([] : List Host.Cell) ∧
      (∀ c ∈ ([] : List Host.Cell), c.1 < full4.fifo.flush.cap) ∧ full4.fifo.flush.count.toNat = 0 ∧
      ∃ t, exec (.push 0x45) (full4.setFifo full4.fifo.flush) = .next t :=
  ⟨⟨by decide, by decide, by decide, by decide, by decide, by decide, by decide, by decide, by decide⟩,
    by decide, by decide, by decide, _, rfl⟩

/-- Events that take no byte: a push, a tick, a STATUS read, a CMD write with bit 0 clear. -/
def noPop : List Instr := [.push 0x45, .tick, .rdStatus, .wrCmd 0xFE]

theorem witness_AvailLastsUntilThePop :
    last.fifo.Inv ∧ last.fifo.count ≠ 0 ∧
      (∀ i ∈ noPop, i ≠ .rdRxdata ∧ ∀ d, i = .wrCmd d → d.getLsbD 0 = false) ∧
      ∃ t, eventRun last noPop = some (t, [], [0x45]) :=
  ⟨last_inv.fifo, by decide, by simp [noPop], _, rfl⟩

theorem witness_TickRunsTheChain :
    (enabled true false s4).ctrl.tick_en = false ∧ s4.ctrl.tick_en = true := by decide

/-- A run with ticks, a held tick and other events between; no ratio write. -/
def someTicks : List Instr := [.tick, .wrCtrl 0x01, .tick, .rdFlags, .wrCtrl 0x03, .tick, .tick, .tick]

theorem witness_RolloversAreAtTheMultiples :
    s4.tick.div_f = 0 ∧ s4.tick.div_m = 0 ∧ s4.tick.div_s = 0 ∧ keepsRatios someTicks ∧
      acceptedTicks s4 someTicks = 4 ∧
      ∃ t, eventRun s4 someTicks = some (t, [], []) ∧ t.ctrl.tick_en = true :=
  ⟨rfl, rfl, rfl, by simp [keepsRatios, someTicks], rfl, _, rfl, rfl⟩
theorem witness_RolloversAreCountedByDivision :
    s4.tick.div_f = 0 ∧ s4.tick.div_m = 0 ∧ s4.tick.div_s = 0 ∧ keepsRatios (.tick :: someTicks) ∧
      timesSet s4 (.tick :: someTicks) = (1, 0, 0) ∧
      ∃ t, eventRun s4 (.tick :: someTicks) = some (t, [], []) :=
  ⟨rfl, rfl, rfl, by simp [keepsRatios, someTicks], rfl, _, rfl⟩

theorem witness_DividersAreLockedAndBounded_lock : (setByTick (withTick 499 4 9 9 true true false)).2.2 = true := by decide
/-- The dividers at their bound, with the largest ratios. -/
theorem witness_DividersAreLockedAndBounded_bound :
    let s : State :=
      { s4 with tick := { s4.tick with div_f := 253, div_m := 254, div_s := 254, ratio_f := 255, ratio_m := 255 } }
    s.tick.div_f.toNat ≤ 254 ∧ s.tick.div_m.toNat ≤ 254 ∧ s.tick.div_s.toNat ≤ 254 ∧
      (after (exec .tick s)).map (fun t => t.tick.div_f) = some 254 := by decide

/-- Every ratio 0: all three levels roll over. -/
theorem witness_RatiosZeroAndOneAlwaysRollOver :
    let s : State := { s4 with tick := { s4.tick with ratio_f := 0, ratio_m := 1, ratio_s := 0 } }
    s.ctrl.tick_en = true ∧ s.tick.ratio_f.toNat ≤ 1 ∧ s.tick.ratio_m.toNat ≤ 1 ∧ s.tick.ratio_s.toNat ≤ 1 ∧
      (after (exec .tick s)).isSome = true ∧ (setByTick s).1 = true ∧ (setByTick s).2.1 = true := by decide

/-- The boundary of each level: a ratio at the divider plus one, and one above it. -/
theorem witness_RatioWritesTakeEffectAtTheNextTick :
    let s := withTick 0 4 9 9 false false false
    s.ctrl.tick_en = true ∧ s.tick.ratio_f.toNat ≤ s.tick.div_f.toNat + 1 ∧
      s.tick.ratio_m.toNat ≤ s.tick.div_m.toNat + 1 ∧ (0x05 : Byte).toNat ≤ s.tick.div_f.toNat + 1 ∧
      s.tick.div_f.toNat + 1 < (0x06 : Byte).toNat ∧ (0x0A : Byte).toNat ≤ s.tick.div_m.toNat + 1 ∧
      s.tick.div_m.toNat + 1 < (0x0B : Byte).toNat ∧ (0x0A : Byte).toNat ≤ s.tick.div_s.toNat + 1 ∧
      s.tick.div_s.toNat + 1 < (0x0B : Byte).toNat ∧
      (eventRun s [.wrFastRatio 0x05, .tick]).isSome = true ∧ (eventRun s [.wrFastRatio 0x06, .tick]).isSome = true ∧
      (eventRun s [.wrMedRatio 0x0B, .tick]).isSome = true ∧ (eventRun s [.wrSlowRatio 0x0B, .tick]).isSome = true := by
  decide

/-- A rollover of all three levels, with every flag set before it. -/
theorem witness_LostPeriodsLeaveNoTrace :
    let s := withTick 999 4 9 9 true true true
    s.ctrl.tick_en = true ∧ (after (exec .tick s)).isSome = true ∧ s.tick.f_due = true ∧ s.tick.m_due = true ∧
      s.tick.s_due = true ∧ setByTick s = (true, true, true) := by decide

theorem witness_CounterDifferenceCountsTicks :
    acceptedTicks (withTick 0xFFFFFFFE 0 0 0 false false false) someTicks < 2 ^ 32 ∧
      ∃ t, eventRun (withTick 0xFFFFFFFE 0 0 0 false false false) someTicks = some (t, [], []) :=
  ⟨by decide, _, rfl⟩

theorem witness_FlagsReadTheDueBits :
    let s := { withTick 4 4 0 0 false false false with tickPort := pendingPort }
    s.event = none ∧ (after (wholeCycle (some 0x0600) s)).isSome = true := by decide

theorem witness_FlagsWriteOneClears :
    let s := withTick 499 4 9 9 true true true
    s.ctrl.tick_en = true ∧ (eventRun s [.wrFlags 0x07, .tick]).isSome = true ∧ setByTick s = (true, true, true) := by
  decide

theorem witness_CounterBytesComeFromTheSnapshot :
    let s := { withTick 5 0 1 0 true false false with tickPort := pendingPort }
    s.event = none ∧ (after (wholeCycle (some 0x1000) s)).isSome = true := by decide

/-- P4: a tick carries into the second byte between the reads. -/
theorem witness_CounterReadIsAtomic :
    ∃ s1, exec .rdTick0 (withTick 0xFF 0 1 5 true true false) = .next s1 ∧
      (∀ i ∈ [Instr.tick, .rdTick1], i ≠ .rdTick0) ∧ ∃ t, eventRun s1 [.tick, .rdTick1] = some (t, [], []) :=
  ⟨_, rfl, by simp, _, rfl⟩

/-- VC3, with a push and a tick while masked. -/
theorem witness_MaskHoldsUntilRestored :
    ∃ s1 s2 t u, exec .rdCtrl (enabled false true s4) = .next s1 ∧ exec (.wrCtrl 0x00) s1 = .next s2 ∧
      (∀ i ∈ [Instr.push 0x41, .tick], ∀ d, i ≠ .wrCtrl d ∧ (i = .wrCmd d → d.getLsbD 0 = false)) ∧
      eventRun s2 [.push 0x41, .tick] = some (t, [], []) ∧ exec (.wrCtrl s1.bus_rdata) t = .next u ∧
      (0x00 : Byte).getLsbD 0 = false ∧ (0x00 : Byte).getLsbD 1 = false :=
  ⟨_, _, _, _, rfl, rfl, by simp, rfl, rfl, rfl, rfl⟩

/-- A step that performs a push, one that begins a cycle, and one with `rst` = 1. -/
theorem witness_EveryStepKeepsTheInvariant :
    State.Inv { last with event := some 0x8045 } ∧ (∃ t, step { last with event := some 0x8045 } = .next t) ∧
      full4.Inv ∧ (∃ t, step full4 = .next t) ∧ State.Inv { full4 with inputs := [.clk true Bus.idle] } ∧
      ∃ t, step { full4 with inputs := [.clk true Bus.idle] } = .next t :=
  ⟨⟨last_inv.fifo, last_inv.tick⟩, ⟨_, rfl⟩, full4_inv, ⟨_, rfl⟩, ⟨full4_inv.fifo, full4_inv.tick⟩, _, rfl⟩

/-- A PUSH word that waits for its pending request, and a producer that starts one. -/
theorem witness_EveryStepKeepsTheHandshakes :
    State.Handshakes (s4.withFetchWord 16 0x8041) ∧ (∃ t, step (s4.withFetchWord 16 0x8041) = .next t) ∧
      State.Handshakes { s4 with inputs := [.producerClk (some 0x41)] } ∧
      ∃ t, step { s4 with inputs := [.producerClk (some 0x41)] } = .next t := by
  refine ⟨⟨?_, ?_, ?_, ?_⟩, ⟨_, rfl⟩, ⟨?_, ?_, nofun, nofun⟩, ⟨_, rfl⟩⟩
  · unfold Port.Inv; decide
  · unfold Port.Inv; decide
  · rintro w b ⟨⟩ ⟨⟩; exact ⟨rfl, rfl⟩
  · rintro w ⟨⟩ h; exact absurd h (by decide)
  · unfold Port.Inv; decide
  · unfold Port.Inv; decide

theorem witness_EveryEventCompletes : full4.Inv := full4_inv

theorem witness_AccessRightsAreFixedByPort :
    (∃ t, exec (.push 0x44) three = .next t ∧ t.fifo.x ≠ three.fifo.x) ∧
      ∃ t, exec .tick (withTick 4 4 0 0 false false false) = .next t ∧ t.tick.f_due = true :=
  ⟨⟨_, rfl, by decide⟩, _, rfl, rfl⟩

/-- A count raised to CAP, and lowered from it. -/
theorem witness_AccessRightsAreFixedByPort_count :
    full4.fifo.Inv ∧ (∃ t, exec (.push 0x44) three = .next t ∧ three.fifo.count.toNat < t.fifo.count.toNat) ∧
      (∃ t, exec .rdRxdata full4 = .next t ∧ t.fifo.count.toNat < full4.fifo.count.toNat) ∧
      ∃ t, exec (.wrCmd 0x01) full4 = .next t ∧ t.fifo.count.toNat < full4.fifo.count.toNat :=
  ⟨full4_inv.fifo, ⟨_, rfl, by decide⟩, ⟨_, rfl, by decide⟩, _, rfl, by decide⟩

theorem witness_EventsKeepTheSurroundings : ∃ t, exec (.push 0x44) three = .next t := ⟨_, rfl⟩

theorem witness_WritingTwiceIsWritingOnce :
    Instr.wrCmd 0x01 ∈ [Instr.wrCtrl 0x01, .wrCmd 0x01, .wrFlags 0x01, .wrFastRatio 0x01, .wrMedRatio 0x01,
        .wrSlowRatio 0x01] ∧ ∃ t, exec (.wrCmd 0x01) full4 = .next t := ⟨by simp, _, rfl⟩

end Sys2Proof.Tests
end

/-! # What each event does -/

section
namespace Sys2Proof.Machine

/-! ## The four events with conditions -/

/-- The FIFO after a PUSH has stored `b` (40_fifo.md R100). -/
def Fifo.store (f : Fifo) (b : Byte) : Fifo :=
  { f with x := Memory.write f.x f.wr_idx.toNat b, wr_idx := f.succIdx f.wr_idx, count := f.count + 1 }

@[simp] theorem Fifo.store_cap (f : Fifo) (b : Byte) : (f.store b).cap = f.cap := rfl
@[simp] theorem Fifo.store_x (f : Fifo) (b : Byte) : (f.store b).x = Memory.write f.x f.wr_idx.toNat b := rfl
@[simp] theorem Fifo.store_rd_idx (f : Fifo) (b : Byte) : (f.store b).rd_idx = f.rd_idx := rfl
@[simp] theorem Fifo.store_wr_idx (f : Fifo) (b : Byte) : (f.store b).wr_idx = f.succIdx f.wr_idx := rfl
@[simp] theorem Fifo.store_count (f : Fifo) (b : Byte) : (f.store b).count = f.count + 1 := rfl
@[simp] theorem Fifo.store_era (f : Fifo) (b : Byte) : (f.store b).era = f.era := rfl

theorem storeByte_next_store {b : Byte} {s t : State} :
    storeByte b s = .next t ↔
      s.fifo.wr_idx.toNat < s.fifo.cap ∧ t = (s.setFifo (s.fifo.store b)).ackPush :=
  storeByte_next

/-- A PUSH is held, discarded at full, or stored. -/
theorem exec_push_next {b : Byte} {s t : State} :
    exec (.push b) s = .next t ↔
      (s.ctrl.rx_en = false ∧ t = s) ∨
      (s.ctrl.rx_en = true ∧ s.fifo.full = true ∧ t = s.ackPush) ∨
      (s.ctrl.rx_en = true ∧ s.fifo.full = false ∧ s.fifo.wr_idx.toNat < s.fifo.cap ∧
        t = (s.setFifo (s.fifo.store b)).ackPush) := by
  rw [show exec (.push b) s = execPush b s from rfl, execPush]
  cases s.ctrl.rx_en with
  | false => simp [hold, eq_comm (b := t)]
  | true =>
    cases s.fifo.full with
    | true => simp [eq_comm (b := t)]
    | false => simp [storeByte_next_store]

/-- An RXDATA read returns 0x00 from an empty FIFO and pops the oldest byte otherwise. -/
theorem exec_rdRxdata_next {s t : State} :
    exec .rdRxdata s = .next t ↔
      (s.fifo.count = 0 ∧ t = s.setRdata 0) ∨
      (s.fifo.count ≠ 0 ∧ s.fifo.rd_idx.toNat < s.fifo.cap ∧
        t = (s.setFifo s.fifo.advanceRead).setRdata (s.fifo.entry s.fifo.rd_idx.toNat)) := by
  rw [show exec .rdRxdata s = execRdRxdata s from rfl, execRdRxdata]
  by_cases hc : s.fifo.count = 0
  · simp [hc, readReturns, eq_comm (b := t)]
  · simp only [hc, if_false, takeByte_next, false_and, false_or, ne_eq, not_false_eq_true, true_and]

/-- A CMD write flushes when bit 0 is set and does nothing otherwise. -/
theorem exec_wrCmd_next {d : Byte} {s t : State} :
    exec (.wrCmd d) s = .next t ↔
      (dataBit0 d = false ∧ t = s) ∨
      (dataBit0 d = true ∧ t = (s.setFifo s.fifo.flush).setCtrl { s.ctrl with rx_en := true }) := by
  rw [show exec (.wrCmd d) s = execWrCmd d s from rfl, execWrCmd]
  cases dataBit0 d <;> simp [eq_comm (b := t)]

/-- A TICK is held or fires the tick source. -/
theorem exec_tick_next {s t : State} :
    exec .tick s = .next t ↔
      (s.ctrl.tick_en = false ∧ t = s) ∨
      (s.ctrl.tick_en = true ∧ t = (s.setTick s.tick.fire).ackTick) := by
  rw [show exec .tick s = execTick s from rfl, execTick]
  cases s.ctrl.tick_en <;> simp [hold, eq_comm (b := t)]

/-! ## All events -/

/-- What an event can do to the state: one constructor per kind of change, with the event that makes it. A change
that any event may make (none at all, or of `bus_rdata` alone) does not name its event. -/
inductive Effect (s : State) : Instr → State → Prop
  /-- An ignored write, a write of CMD with bit 0 clear, a held PUSH or TICK. -/
  | none {i : Instr} : Effect s i s
  /-- A read without a side effect. -/
  | read {i : Instr} (v : Byte) : Effect s i (s.setRdata v)
  | pop : s.fifo.count ≠ 0 → s.fifo.rd_idx.toNat < s.fifo.cap →
      Effect s .rdRxdata ((s.setFifo s.fifo.advanceRead).setRdata (s.fifo.entry s.fifo.rd_idx.toNat))
  | latch (v : Byte) : Effect s .rdTick0 ((s.setTick s.tick.latch).setRdata v)
  | setCtrl (d : Byte) : Effect s (.wrCtrl d) (s.setCtrl (ctrlOfByte d))
  | flush (d : Byte) : dataBit0 d = true →
      Effect s (.wrCmd d) ((s.setFifo s.fifo.flush).setCtrl { s.ctrl with rx_en := true })
  | clearFlags (d : Byte) : Effect s (.wrFlags d) (s.setTick (s.tick.clearFlags d))
  | setFastRatio (d : Byte) : Effect s (.wrFastRatio d) (s.setTick { s.tick with ratio_f := d })
  | setMedRatio (d : Byte) : Effect s (.wrMedRatio d) (s.setTick { s.tick with ratio_m := d })
  | setSlowRatio (d : Byte) : Effect s (.wrSlowRatio d) (s.setTick { s.tick with ratio_s := d })
  | discard (b : Byte) : s.ctrl.rx_en = true → s.fifo.full = true → Effect s (.push b) s.ackPush
  | store (b : Byte) : s.ctrl.rx_en = true → s.fifo.full = false → s.fifo.wr_idx.toNat < s.fifo.cap →
      Effect s (.push b) (s.setFifo (s.fifo.store b)).ackPush
  | fire : s.ctrl.tick_en = true → Effect s .tick (s.setTick s.tick.fire).ackTick

/-- Every event that answers a next state has one of these effects. -/
theorem exec_next {i : Instr} {s t : State} (h : exec i s = .next t) : Effect s i t := by
  cases i with
  | push b =>
    obtain ⟨_, rfl⟩ | ⟨hrx, hfull, rfl⟩ | ⟨hrx, hfull, hlt, rfl⟩ := exec_push_next.1 h
    · exact .none
    · exact .discard b hrx hfull
    · exact .store b hrx hfull hlt
  | tick =>
    obtain ⟨_, rfl⟩ | ⟨hen, rfl⟩ := exec_tick_next.1 h
    · exact .none
    · exact .fire hen
  | rdRxdata =>
    obtain ⟨_, rfl⟩ | ⟨hc, hlt, rfl⟩ := exec_rdRxdata_next.1 h
    · exact .read 0
    · exact .pop hc hlt
  | wrCmd d =>
    obtain ⟨_, rfl⟩ | ⟨hd, rfl⟩ := exec_wrCmd_next.1 h
    · exact .none
    · exact .flush d hd
  | rdTick0 => cases h; exact .latch _
  | wrCtrl d => cases h; exact .setCtrl d
  | wrFlags d => cases h; exact .clearFlags d
  | wrFastRatio d => cases h; exact .setFastRatio d
  | wrMedRatio d => cases h; exact .setMedRatio d
  | wrSlowRatio d => cases h; exact .setSlowRatio d
  | rdStatus | rdCount | rdCapacity | rdCtrl | rdCmd | rdFlags | rdFastRatio | rdMedRatio | rdSlowRatio | rdFastDiv
  | rdMedDiv | rdSlowDiv | rdTick1 | rdTick2 | rdTick3 | rdRsvd07 | rdRsvd0B | rdRsvd0F | rdRsvd14to17 a
  | rdRsvd18to1F a => cases h; exact .read _
  | wrStatus d | wrRxdata d | wrCount d | wrCapacity d | wrFastDiv d | wrMedDiv d | wrSlowDiv d | wrTick0 d | wrTick1 d
  | wrTick2 d | wrTick3 d | wrRsvd07 d | wrRsvd0B d | wrRsvd0F d | wrRsvd14to17 a d
  | wrRsvd18to1F a d => cases h; exact .none

namespace Effect

variable {i : Instr} {s t : State}

/-- The FIFO changes by a pop, a flush or a store only. -/
theorem fifo_cases (h : Effect s i t) :
    t.fifo = s.fifo ∨
      (i = .rdRxdata ∧ s.fifo.count ≠ 0 ∧ t.fifo = s.fifo.advanceRead) ∨
      (∃ d, i = .wrCmd d ∧ t.fifo = s.fifo.flush) ∨
      (∃ b, i = .push b ∧ s.fifo.full = false ∧ t.fifo = s.fifo.store b) := by
  cases h with
  | pop hc hlt => exact .inr (.inl ⟨rfl, hc, rfl⟩)
  | flush d hd => exact .inr (.inr (.inl ⟨d, rfl, rfl⟩))
  | store b hrx hfull hlt => exact .inr (.inr (.inr ⟨b, rfl, hfull, rfl⟩))
  | _ => exact .inl rfl

/-- The events that do not speak to the FIFO leave it. -/
theorem fifo_eq (h : Effect s i t) (hpop : i ≠ .rdRxdata) (hcmd : ∀ d, i ≠ .wrCmd d) (hpush : ∀ b, i ≠ .push b) :
    t.fifo = s.fifo := by
  obtain heq | ⟨hi, -⟩ | ⟨d, hi, -⟩ | ⟨b, hi, -⟩ := h.fifo_cases
  · exact heq
  · exact absurd hi hpop
  · exact absurd hi (hcmd d)
  · exact absurd hi (hpush b)

/-- Only PUSH speaks to the push port, and all it does there is acknowledge. -/
theorem pushPort_cases (h : Effect s i t) :
    t.pushPort = s.pushPort ∨ ∃ b, i = .push b ∧ t.pushPort = s.pushPort.acknowledge := by
  cases h with
  | discard b hrx hfull => exact .inr ⟨b, rfl, rfl⟩
  | store b hrx hfull hlt => exact .inr ⟨b, rfl, rfl⟩
  | _ => exact .inl rfl

/-- Only TICK speaks to the tick port, and all it does there is acknowledge. -/
theorem tickPort_cases (h : Effect s i t) :
    t.tickPort = s.tickPort ∨ (i = .tick ∧ t.tickPort = s.tickPort.acknowledge) := by
  cases h with
  | fire hen => exact .inr ⟨rfl, rfl⟩
  | _ => exact .inl rfl

/-- What no event changes: the producer's byte, the waiting word, the place in the cycle, the inputs, CAP and the
unspecified contents. -/
theorem frame (h : Effect s i t) :
    t.push_data = s.push_data ∧ t.event = s.event ∧ t.phase = s.phase ∧ t.inputs = s.inputs ∧
      t.fifo.cap = s.fifo.cap ∧ t.fifo.era = s.fifo.era := by
  cases h <;> exact ⟨rfl, rfl, rfl, rfl, rfl, rfl⟩

end Effect

end Sys2Proof.Machine
end

/-! # The FIFO: its invariant and its queue -/

section
namespace Sys2Proof.Machine

theorem Fifo.full_eq_false {f : Fifo} : f.full = false ↔ f.count.toNat ≠ f.cap := by simp [Fifo.full]

/-- Where the `k`-th unread byte stands (10_state.md R27). -/
def Fifo.slot (f : Fifo) (k : Nat) : Nat := (f.rd_idx.toNat + k) % f.cap

theorem Fifo.queue_eq (f : Fifo) : f.queue = (List.range f.count.toNat).map fun k => f.entry (f.slot k) := rfl

theorem Fifo.queue_length (f : Fifo) : f.queue.length = f.count.toNat := by simp [Fifo.queue_eq]

namespace Fifo.Inv

variable {f : Fifo}

theorem succIdx_toNat (h : f.Inv) (i : Byte) : (f.succIdx i).toNat = (i.toNat + 1) % f.cap := by
  have hlt := Nat.mod_lt (i.toNat + 1) h.cap_pos
  have hcap := h.cap_le
  rw [Fifo.succIdx, BitVec.toNat_ofNat, Nat.mod_eq_of_lt]
  omega

theorem count_lt (h : f.Inv) (hfull : f.full = false) : f.count.toNat < f.cap :=
  lt_of_le_of_ne h.count_le (Fifo.full_eq_false.1 hfull)

theorem count_succ_toNat (h : f.Inv) (hfull : f.full = false) : (f.count + 1).toNat = f.count.toNat + 1 := by
  have hlt := h.count_lt hfull
  have hcap := h.cap_le
  rw [BitVec.toNat_add, Nat.mod_eq_of_lt] <;> simp; omega

theorem slot_zero (h : f.Inv) : f.slot 0 = f.rd_idx.toNat := Nat.mod_eq_of_lt h.rd_lt

/-- The slot after the last unread byte is the one PUSH writes. -/
theorem slot_count (h : f.Inv) : f.slot f.count.toNat = f.wr_idx.toNat := h.wr_eq.symm

/-- Below full, the write index is at no unread byte. -/
theorem slot_ne_wr_idx (h : f.Inv) (hfull : f.full = false) {k : Nat} (hk : k < f.count.toNat) :
    f.slot k ≠ f.wr_idx.toNat := by
  intro heq
  have hcount := h.count_lt hfull
  have hmod : k ≡ f.count.toNat [MOD f.cap] := Nat.ModEq.add_left_cancel' f.rd_idx.toNat (heq.trans h.wr_eq)
  have := hmod.eq_of_lt_of_lt (by omega) hcount
  omega

/-- A pop moves every unread byte one place to the front. -/
theorem slot_advanceRead (h : f.Inv) (k : Nat) : f.advanceRead.slot k = f.slot (k + 1) := by
  simp only [Fifo.slot, Fifo.advanceRead_rd_idx, Fifo.advanceRead_cap, h.succIdx_toNat, Nat.mod_add_mod]
  rw [Nat.add_assoc, Nat.add_comm 1 k]

/-- The write index moves on to the slot behind it. -/
theorem succIdx_wr_idx (h : f.Inv) : (f.succIdx f.wr_idx).toNat = f.slot (f.count.toNat + 1) := by
  rw [h.succIdx_toNat, h.wr_eq, Nat.mod_add_mod]; rfl

theorem slot_lt (h : f.Inv) (k : Nat) : f.slot k < f.cap := Nat.mod_lt _ h.cap_pos

end Fifo.Inv

theorem Fifo.count_toNat_pos {f : Fifo} (hc : f.count ≠ 0) : 0 < f.count.toNat := by
  rw [Nat.pos_iff_ne_zero]
  exact fun h => hc (BitVec.eq_of_toNat_eq h)

theorem Fifo.count_pred_toNat {f : Fifo} (hc : f.count ≠ 0) : (f.count - 1).toNat = f.count.toNat - 1 := by
  have := Fifo.count_toNat_pos hc
  bv_omega

/-! ## The invariant is kept (10_state.md R26) -/

namespace Fifo.Inv

variable {f : Fifo}

theorem store (h : f.Inv) (hfull : f.full = false) (b : Byte) : (f.store b).Inv where
  cap_pos := h.cap_pos
  cap_le := h.cap_le
  count_le := by
    rw [Fifo.store_count, h.count_succ_toNat hfull]
    exact h.count_lt hfull
  rd_lt := h.rd_lt
  wr_lt := by
    rw [Fifo.store_wr_idx, h.succIdx_wr_idx]
    exact h.slot_lt _
  wr_eq := by
    rw [Fifo.store_wr_idx, h.succIdx_wr_idx, Fifo.store_count, h.count_succ_toNat hfull]
    rfl
  canonical := Memory.write_wf h.canonical _ _
  inside := by
    intro c hc
    obtain rfl | hc := Memory.mem_write hc
    · exact h.wr_lt
    · exact h.inside c hc
  written := by
    intro k hk
    rw [Fifo.store_count, h.count_succ_toNat hfull] at hk
    change (Memory.read (Memory.write f.x f.wr_idx.toNat b) (f.slot k)).isSome = true
    obtain hlt | rfl := Nat.lt_succ_iff_lt_or_eq.1 hk
    · rw [Memory.read_write_other _ _ (h.slot_ne_wr_idx hfull hlt)]
      exact h.written k hlt
    · rw [h.slot_count, Memory.read_write_same]
      rfl

theorem advanceRead (h : f.Inv) (hc : f.count ≠ 0) : f.advanceRead.Inv where
  cap_pos := h.cap_pos
  cap_le := h.cap_le
  count_le := by
    have := h.count_le
    rw [Fifo.advanceRead_count, Fifo.count_pred_toNat hc, Fifo.advanceRead_cap]
    omega
  rd_lt := by
    rw [Fifo.advanceRead_rd_idx, h.succIdx_toNat]
    exact Nat.mod_lt _ h.cap_pos
  wr_lt := h.wr_lt
  wr_eq := by
    have hpos := Fifo.count_toNat_pos hc
    change f.wr_idx.toNat = f.advanceRead.slot _
    rw [h.slot_advanceRead, Fifo.advanceRead_count, Fifo.count_pred_toNat hc, Nat.sub_add_cancel hpos, h.slot_count]
  canonical := h.canonical
  inside := h.inside
  written := by
    intro k hk
    rw [Fifo.advanceRead_count, Fifo.count_pred_toNat hc] at hk
    change (Memory.read f.x (f.advanceRead.slot k)).isSome = true
    rw [h.slot_advanceRead]
    exact h.written (k + 1) (by omega)

theorem flush (h : f.Inv) : f.flush.Inv where
  cap_pos := h.cap_pos
  cap_le := h.cap_le
  count_le := Nat.zero_le _
  rd_lt := h.cap_pos
  wr_lt := h.cap_pos
  wr_eq := (Nat.zero_mod _).symm
  canonical := h.canonical
  inside := h.inside
  written := fun _ hk => absurd hk (Nat.not_lt_zero _)

end Fifo.Inv

theorem Fifo.reset_inv {cap : Nat} (hpos : 1 ≤ cap) (hle : cap ≤ 255) (era : Nat) : (Fifo.reset cap era).Inv where
  cap_pos := hpos
  cap_le := hle
  count_le := Nat.zero_le _
  rd_lt := hpos
  wr_lt := hpos
  wr_eq := (Nat.zero_mod _).symm
  canonical := Memory.reset_wf
  inside := nofun
  written := fun _ hk => absurd hk (Nat.not_lt_zero _)

/-! ## The queue (10_state.md R27) -/

theorem Fifo.queue_eq_nil {f : Fifo} (hc : f.count = 0) : f.queue = [] := by simp [Fifo.queue_eq, hc]

theorem Fifo.queue_flush (f : Fifo) : f.flush.queue = [] := Fifo.queue_eq_nil rfl

namespace Fifo.Inv

variable {f : Fifo}

theorem queue_store (h : f.Inv) (hfull : f.full = false) (b : Byte) : (f.store b).queue = f.queue ++ [b] := by
  have hold : ∀ k < f.count.toNat, (f.store b).entry (f.slot k) = f.entry (f.slot k) := fun k hk => by
    simp only [Fifo.entry, Fifo.store_x, Fifo.store_era, Memory.read_write_other _ _ (h.slot_ne_wr_idx hfull hk)]
  have hnew : (f.store b).entry (f.slot f.count.toNat) = b :=
    Fifo.entry_of_read (by rw [h.slot_count, Fifo.store_x, Memory.read_write_same])
  rw [Fifo.queue_eq, Fifo.store_count, h.count_succ_toNat hfull, List.range_succ, List.map_append]
  congr 1
  · exact List.map_congr_left fun k hk => hold k (List.mem_range.1 hk)
  · exact congrArg (fun v => [v]) hnew

/-- A pop takes the entry at `rd_idx` off the front. -/
theorem queue_eq_cons (h : f.Inv) (hc : f.count ≠ 0) :
    f.queue = f.entry f.rd_idx.toNat :: f.advanceRead.queue := by
  have hcount : f.count.toNat = f.advanceRead.count.toNat + 1 := by
    have := Fifo.count_toNat_pos hc
    rw [Fifo.advanceRead_count, Fifo.count_pred_toNat hc]
    omega
  rw [Fifo.queue_eq, hcount, List.range_succ_eq_map, List.map_cons, h.slot_zero, List.map_map, Fifo.queue_eq]
  congr 1
  refine List.map_congr_left fun k _ => ?_
  rw [h.slot_advanceRead]
  rfl

end Fifo.Inv

end Sys2Proof.Machine
end

/-! # What a step between events does -/

section
namespace Sys2Proof.Machine

/-! ## One rule per part of the cycle (20_memory.md R60) -/

theorem step_of_push_phase {s : State} (he : s.event = none) (hp : s.phase = .push) : step s = .next s.pushStep := by
  simp [step, he, State.advance, hp]

theorem step_of_tick_phase {s : State} (he : s.event = none) (hp : s.phase = .tick) : step s = .next s.tickStep := by
  simp [step, he, State.advance, hp]

theorem step_of_cycle_phase {s : State} (he : s.event = none) (hp : s.phase = .cycle) : step s = s.takeInput := by
  simp [step, he, State.advance, hp]

theorem beginCycle_idle (s : State) :
    s.beginCycle false Bus.idle = .next { s.clkEdge with event := none, phase := .push } := rfl

theorem Port.pending_iff {p : Port} : p.pending = true ↔ p.reqSync.second ≠ p.ack := by simp [Port.pending]

theorem Port.free_iff {p : Port} : p.free = true ↔ p.ackSync.second = p.req := by simp [Port.free]

/-- Between events the FIFO and the tick source stay, or a cycle with `rst` = 1 resets them. -/
theorem advance_fifo_tick {s t : State} (h : s.advance = .next t) :
    (t.fifo = s.fifo ∧ t.tick = s.tick) ∨
      (t.fifo = Fifo.reset s.fifo.cap (s.fifo.era + 1) ∧ t.tick = TickSource.reset) := by
  obtain ⟨-, rfl⟩ | ⟨-, rfl⟩ | ⟨-, hinput⟩ := advance_next h
  · exact .inl ⟨rfl, rfl⟩
  · exact .inl ⟨rfl, rfl⟩
  obtain ⟨-, hb⟩ | ⟨rst, b, rest, -, hb⟩ | ⟨o, rest, -, ho⟩ | ⟨o, rest, -, ho⟩ := hinput
  · cases (beginCycle_idle s).symm.trans hb
    exact .inl ⟨rfl, rfl⟩
  · obtain ⟨-, rfl⟩ | ⟨-, -, rfl⟩ := beginCycle_next hb
    · exact .inr ⟨rfl, rfl⟩
    · exact .inl ⟨rfl, rfl⟩
  · obtain ⟨-, rfl⟩ | ⟨-, -, -, rfl⟩ := producerEdge_next ho <;> exact .inl ⟨rfl, rfl⟩
  · obtain ⟨-, rfl⟩ | ⟨-, -, rfl⟩ := tickGenEdge_next ho <;> exact .inl ⟨rfl, rfl⟩

/-! ## The words of the two ports (30_encoding.md R73, R74) -/

theorem decode_pushWord (d : Byte) : decode (eventWord kindPush 0 d) = .ok (.push d) := by
  simp [decode, kindPush, kindRead, kindWrite]

theorem decode_tickWord : decode (eventWord kindTick 0 0) = .ok .tick := by decide

theorem pushWord_eq (d : Byte) : eventWord kindPush 0 d = 0x8000 ||| d.zeroExtend 16 := by
  apply BitVec.eq_of_getLsbD_eq
  intro i hi
  simp only [eventWord, kindPush, BitVec.getLsbD_append]
  interval_cases i <;> simp

theorem readEvent_ne_port (a : Addr) : (∀ b, readEvent a ≠ .push b) ∧ readEvent a ≠ .tick := by
  unfold readEvent
  split <;> simp [ite_eq_iff]

theorem writeEvent_ne_port (a : Addr) (d : Byte) : (∀ b, writeEvent a d ≠ .push b) ∧ writeEvent a d ≠ .tick := by
  unfold writeEvent
  split <;> simp [ite_eq_iff]

/-- No bus cycle spells a PUSH or a TICK: its word has the KIND of a read or of a write. -/
theorem Bus.word_ne_port {bus : Bus} {w : EventWord} (h : bus.word = some w) :
    (∀ b, decode w ≠ .ok (.push b)) ∧ decode w ≠ .ok .tick := by
  unfold Bus.word at h
  split_ifs at h
  · cases h
    simpa [decode] using readEvent_ne_port bus.addr
  · cases h
    simpa [decode, kindRead, kindWrite] using writeEvent_ne_port bus.addr bus.wdata

end Sys2Proof.Machine
end

/-! # The block's invariant -/

section
namespace Sys2Proof.Machine

theorem TickSource.reset_inv : TickSource.reset.Inv := ⟨by decide, by decide, by decide⟩

/-- A divider that counts is below its ratio, and one that does not stays (41_tick.md R143). -/
theorem TickSource.Inv.fire {t : TickSource} (h : t.Inv) : t.fire.Inv where
  fast_le := nextDiv_le _ _
  med_le := by
    rw [TickSource.fire_div_m]
    split
    · exact nextDiv_le _ _
    · exact h.med_le
  slow_le := by
    rw [TickSource.fire_div_s]
    split
    · exact nextDiv_le _ _
    · exact h.slow_le

namespace Effect

variable {i : Instr} {s t : State}

theorem fifo_inv (h : Effect s i t) (hf : s.fifo.Inv) : t.fifo.Inv := by
  obtain heq | ⟨-, hc, heq⟩ | ⟨d, -, heq⟩ | ⟨b, -, hfull, heq⟩ := h.fifo_cases <;> rw [heq]
  · exact hf
  · exact hf.advanceRead hc
  · exact hf.flush
  · exact hf.store hfull b

/-- Only a TICK moves a divider. -/
theorem tick_inv (h : Effect s i t) (ht : s.tick.Inv) : t.tick.Inv := by
  cases h with
  | fire hen => exact ht.fire
  | _ => exact ⟨ht.fast_le, ht.med_le, ht.slow_le⟩

end Effect

/-- Settles O47: an event keeps the invariant by its effect, and between events the FIFO and the tick source stay or
are reset. -/
theorem everyStepKeepsTheInvariant : Obligations.EveryStepKeepsTheInvariant := by
  intro s t hs h
  obtain ⟨w, i, -, -, hexec⟩ | ⟨-, hadv⟩ := step_next h
  · have heff := exec_next hexec
    exact ⟨heff.fifo_inv hs.fifo, heff.tick_inv hs.tick⟩
  · obtain ⟨hf, ht⟩ | ⟨hf, ht⟩ := advance_fifo_tick hadv
    · exact ⟨hf ▸ hs.fifo, ht ▸ hs.tick⟩
    · exact ⟨hf ▸ Fifo.reset_inv hs.fifo.cap_pos hs.fifo.cap_le _, ht ▸ TickSource.reset_inv⟩

end Sys2Proof.Machine
end

/-! # The handshakes -/

section
namespace Sys2Proof.Machine

/-! ## One change travels round each port's loop -/

/-- At most one change under way, for the six toggles one by one. -/
theorem Port.inv_mk {r f q a g k : Bool} :
    Port.Inv ⟨r, ⟨f, q⟩, a, ⟨g, k⟩⟩ ↔ changes [r, f, q, a, g, k] ≤ 1 := Iff.rfl

theorem Port.reset_inv : Port.reset.Inv := Port.inv_mk.2 (by decide)

namespace Port.Inv

variable {p : Port}

/-- A `clk` edge moves a change at the request or at its first flop one place on. -/
theorem coreEdge (h : p.Inv) : p.coreEdge.Inv := by
  obtain ⟨r, ⟨f, q⟩, a, ⟨g, k⟩⟩ := p
  rw [Port.inv_mk] at h
  refine Port.inv_mk.2 ?_
  decide +revert

/-- A sender's edge moves a change at the acknowledge or at its first flop one place on. -/
theorem senderEdge (h : p.Inv) : p.senderEdge.Inv := by
  obtain ⟨r, ⟨f, q⟩, a, ⟨g, k⟩⟩ := p
  rw [Port.inv_mk] at h
  refine Port.inv_mk.2 ?_
  decide +revert

/-- A sender that has seen its acknowledge has no change under way, so starting a request makes the only one. -/
theorem start (h : p.Inv) (hfree : p.free = true) : p.senderEdge.start.Inv := by
  obtain ⟨r, ⟨f, q⟩, a, ⟨g, k⟩⟩ := p
  rw [Port.inv_mk] at h
  rw [Port.free_iff] at hfree
  refine Port.inv_mk.2 ?_
  decide +revert

/-- While a request is pending the change stands just before the acknowledge, and acknowledging moves it past. -/
theorem acknowledge (h : p.Inv) (hpending : p.pending = true) : p.acknowledge.Inv := by
  obtain ⟨r, ⟨f, q⟩, a, ⟨g, k⟩⟩ := p
  rw [Port.inv_mk] at h
  rw [Port.pending_iff] at hpending
  refine Port.inv_mk.2 ?_
  decide +revert

end Port.Inv

/-! ## Each part of a step keeps the handshakes -/

/-- With no port word waiting, the handshakes are the two ports'. -/
theorem State.Handshakes.of_no_event {s : State} (hpush : s.pushPort.Inv) (htick : s.tickPort.Inv)
    (he : s.event = none) : s.Handshakes :=
  ⟨hpush, htick, by simp [he], by simp [he]⟩

namespace State.Handshakes

variable {s t : State}

theorem pushStep (h : s.Handshakes) : s.pushStep.Handshakes := by
  by_cases hsp : (s.pushPort.pending && s.ctrl.rx_en) = true
  · have hpending : s.pushPort.pending = true := (Bool.and_eq_true_iff.1 hsp).1
    have hevent : s.pushStep.event = some (eventWord kindPush 0 s.push_data) := by simp [hsp]
    refine ⟨h.push, h.tick, ?_, ?_⟩
    · intro w b hw hd
      cases hevent.symm.trans hw
      cases (decode_pushWord s.push_data).symm.trans hd
      exact ⟨hpending, rfl⟩
    · intro w hw hd
      cases hevent.symm.trans hw
      cases (decode_pushWord s.push_data).symm.trans hd
  · exact .of_no_event h.push h.tick (by simp [hsp])

theorem tickStep (h : s.Handshakes) : s.tickStep.Handshakes := by
  by_cases hsp : (s.tickPort.pending && s.ctrl.tick_en) = true
  · have hpending : s.tickPort.pending = true := (Bool.and_eq_true_iff.1 hsp).1
    have hevent : s.tickStep.event = some (eventWord kindTick 0 0) := by simp [hsp]
    refine ⟨h.push, h.tick, ?_, fun _ _ _ => hpending⟩
    intro w b hw hd
    cases hevent.symm.trans hw
    cases decode_tickWord.symm.trans hd
  · exact .of_no_event h.push h.tick (by simp [hsp])

theorem beginCycle {rst : Bool} {b : Bus} (h : s.Handshakes) (hb : s.beginCycle rst b = .next t) : t.Handshakes := by
  obtain ⟨-, rfl⟩ | ⟨-, -, rfl⟩ := beginCycle_next hb
  · exact .of_no_event Port.reset_inv Port.reset_inv rfl
  · exact ⟨h.push.coreEdge, h.tick.coreEdge, fun w d hw hd => absurd hd ((Bus.word_ne_port hw).1 d),
      fun w hw hd => absurd hd (Bus.word_ne_port hw).2⟩

theorem producerEdge {o : Option Byte} (h : s.Handshakes) (he : s.event = none)
    (ho : s.producerEdge o = .next t) : t.Handshakes := by
  obtain ⟨-, rfl⟩ | ⟨b, -, hfree, rfl⟩ := producerEdge_next ho
  · exact .of_no_event h.push.senderEdge h.tick he
  · exact .of_no_event (h.push.start hfree) h.tick he

theorem tickGenEdge {o : Bool} (h : s.Handshakes) (he : s.event = none)
    (ho : s.tickGenEdge o = .next t) : t.Handshakes := by
  obtain ⟨-, rfl⟩ | ⟨-, hfree, rfl⟩ := tickGenEdge_next ho
  · exact .of_no_event h.push h.tick.senderEdge he
  · exact .of_no_event h.push (h.tick.start hfree) he

theorem setInputs (h : s.Handshakes) (rest : List Input) : State.Handshakes { s with inputs := rest } :=
  ⟨h.push, h.tick, h.pushWord, h.tickWord⟩

theorem advance (h : s.Handshakes) (he : s.event = none) (ha : s.advance = .next t) : t.Handshakes := by
  obtain ⟨-, rfl⟩ | ⟨-, rfl⟩ | ⟨-, hinput⟩ := advance_next ha
  · exact h.pushStep
  · exact h.tickStep
  obtain ⟨-, hb⟩ | ⟨rst, b, rest, -, hb⟩ | ⟨o, rest, -, ho⟩ | ⟨o, rest, -, ho⟩ := hinput
  · exact h.beginCycle hb
  · exact (h.setInputs rest).beginCycle hb
  · exact (h.setInputs rest).producerEdge he ho
  · exact (h.setInputs rest).tickGenEdge he ho

/-- The event that waits acknowledges a port only when its request is pending. -/
theorem performEvent {w : EventWord} {i : Instr} (h : s.Handshakes) (hw : s.event = some w) (hd : decode w = .ok i)
    (hexec : exec i { s with event := none } = .next t) : t.Handshakes := by
  have heff := exec_next hexec
  obtain ⟨-, hevent, -⟩ := heff.frame
  have hpush : t.pushPort.Inv := by
    obtain heq | ⟨b, rfl, heq⟩ := heff.pushPort_cases <;> rw [heq]
    · exact h.push
    · exact h.push.acknowledge (h.pushWord w b hw hd).1
  have htick : t.tickPort.Inv := by
    obtain heq | ⟨rfl, heq⟩ := heff.tickPort_cases <;> rw [heq]
    · exact h.tick
    · exact h.tick.acknowledge (h.tickWord w hw hd)
  exact .of_no_event hpush htick hevent

end State.Handshakes

/-- Settles O49. -/
theorem everyStepKeepsTheHandshakes : Obligations.EveryStepKeepsTheHandshakes := by
  intro s t hs h
  obtain ⟨w, i, hw, hd, hexec⟩ | ⟨he, hadv⟩ := step_next h
  · exact hs.performEvent hw hd hexec
  · exact hs.advance he hadv

end Sys2Proof.Machine
end

/-! # What events do to the queue, the array and the surroundings -/

section
namespace Sys2Proof.Machine

/-! ## Events on the queue -/

theorem push_queue {b : Byte} {s t : State} (hf : s.fifo.Inv) (h : exec (.push b) s = .next t) :
    t.fifo.queue =
      if s.ctrl.rx_en = true ∧ s.fifo.queue.length < s.fifo.cap then s.fifo.queue ++ [b] else s.fifo.queue := by
  rw [Fifo.queue_length]
  obtain ⟨hrx, rfl⟩ | ⟨-, hfull, rfl⟩ | ⟨hrx, hfull, -, rfl⟩ := exec_push_next.1 h
  · simp [hrx]
  · have hcount : s.fifo.count.toNat = s.fifo.cap := of_decide_eq_true hfull
    simp [hcount]
  · rw [if_pos ⟨hrx, hf.count_lt hfull⟩]
    exact hf.queue_store hfull b

theorem rdRxdata_queue {s t : State} (hf : s.fifo.Inv) (h : exec .rdRxdata s = .next t) :
    t.fifo.queue = s.fifo.queue.tail ∧ t.bus_rdata = s.fifo.queue.headD 0 := by
  obtain ⟨hc, rfl⟩ | ⟨hc, -, rfl⟩ := exec_rdRxdata_next.1 h
  · simp [Fifo.queue_eq_nil hc]
  · simp [hf.queue_eq_cons hc]

theorem wrCmd_queue {d : Byte} {s t : State} (h : exec (.wrCmd d) s = .next t) :
    t.fifo.queue = if d.getLsbD 0 = true then [] else s.fifo.queue := by
  change t.fifo.queue = if dataBit0 d = true then [] else s.fifo.queue
  obtain ⟨hd, rfl⟩ | ⟨hd, rfl⟩ := exec_wrCmd_next.1 h
  · simp [hd]
  · simp [hd, Fifo.queue_flush]

/-- Settles O25. -/
theorem eventsActOnTheQueue : Obligations.EventsActOnTheQueue := by
  intro i s t hf h
  refine ⟨Fifo.queue_length _, ?_⟩
  cases i with
  | push b => exact push_queue hf h
  | rdRxdata => exact rdRxdata_queue hf h
  | wrCmd d => exact wrCmd_queue h
  | _ => exact congrArg Fifo.queue ((exec_next h).fifo_eq nofun nofun nofun)

/-! ## The contents outside the queue are never observed -/

/-- The state with other contents of the array, listed (`y`) and unspecified (`n`). -/
def State.withContents (s : State) (y : List Host.Cell) (n : Nat) : State :=
  { s with fifo := { s.fifo with x := y, era := n } }

/-- `y` is an array for `f` that agrees with `f.x` on the unread bytes. -/
structure Fifo.Agrees (f : Fifo) (y : List Host.Cell) : Prop where
  canonical : Memory.wf y
  inside : ∀ c ∈ y, c.1 < f.cap
  unread : ∀ k < f.count.toNat, Memory.read y (f.slot k) = Memory.read f.x (f.slot k)

/-- What an event in `s` makes of the array `y`: a stored byte goes to `wr_idx`. -/
def arrayAfter (i : Instr) (s : State) (y : List Host.Cell) : List Host.Cell :=
  (storedBy i s).foldl (fun m b => Memory.write m s.fifo.wr_idx.toNat b) y

theorem arrayAfter_push_of_masked {s : State} (hrx : s.ctrl.rx_en = false) (b : Byte) (y : List Host.Cell) :
    arrayAfter (.push b) s y = y := by simp [arrayAfter, storedBy, hrx]

theorem arrayAfter_push_of_full {s : State} (hfull : s.fifo.full = true) (b : Byte) (y : List Host.Cell) :
    arrayAfter (.push b) s y = y := by
  have hcount : s.fifo.count.toNat = s.fifo.cap := of_decide_eq_true hfull
  simp [arrayAfter, storedBy, hcount]

theorem arrayAfter_push_of_stored {s : State} (hrx : s.ctrl.rx_en = true) (hfull : s.fifo.full = false) (b : Byte)
    (y : List Host.Cell) : arrayAfter (.push b) s y = Memory.write y s.fifo.wr_idx.toNat b := by
  simp [arrayAfter, storedBy, hrx, Fifo.full_eq_false.1 hfull]

theorem arrayAfter_of_ne_push {i : Instr} (hi : ¬∃ b, i = .push b) (s : State) (y : List Host.Cell) :
    arrayAfter i s y = y := by
  cases i with
  | push b => exact absurd ⟨b, rfl⟩ hi
  | _ => rfl

/-- An entry that is listed reads the same whatever the unspecified contents are. -/
theorem Fifo.Agrees.entry_rd_idx {f : Fifo} {y : List Host.Cell} (ha : f.Agrees y) (hf : f.Inv) (hc : f.count ≠ 0)
    (n : Nat) : Fifo.entry { f with x := y, era := n } f.rd_idx.toNat = f.entry f.rd_idx.toNat := by
  have hpos := Fifo.count_toNat_pos hc
  have hread := ha.unread 0 hpos
  obtain ⟨v, hv⟩ := Option.isSome_iff_exists.1 (hf.written 0 hpos)
  change Memory.read f.x (f.slot 0) = some v at hv
  rw [hf.slot_zero] at hread hv
  rw [Fifo.entry_of_read hv]
  exact Fifo.entry_of_read (hread.trans hv)

theorem push_withContents {b : Byte} {s t : State} (h : exec (.push b) s = .next t) (y : List Host.Cell) (n : Nat) :
    exec (.push b) (s.withContents y n) = .next (t.withContents (arrayAfter (.push b) s y) n) := by
  refine exec_push_next.2 ?_
  obtain ⟨hrx, rfl⟩ | ⟨hrx, hfull, rfl⟩ | ⟨hrx, hfull, hlt, rfl⟩ := exec_push_next.1 h
  · rw [arrayAfter_push_of_masked hrx]
    exact .inl ⟨hrx, rfl⟩
  · rw [arrayAfter_push_of_full hfull]
    exact .inr (.inl ⟨hrx, hfull, rfl⟩)
  · rw [arrayAfter_push_of_stored hrx hfull]
    exact .inr (.inr ⟨hrx, hfull, hlt, rfl⟩)

theorem rdRxdata_withContents {s t : State} (hf : s.fifo.Inv) (h : exec .rdRxdata s = .next t) {y : List Host.Cell}
    (ha : s.fifo.Agrees y) (n : Nat) : exec .rdRxdata (s.withContents y n) = .next (t.withContents y n) := by
  refine exec_rdRxdata_next.2 ?_
  obtain ⟨hc, rfl⟩ | ⟨hc, hlt, rfl⟩ := exec_rdRxdata_next.1 h
  · exact .inl ⟨hc, rfl⟩
  · refine .inr ⟨hc, hlt, ?_⟩
    rw [← ha.entry_rd_idx hf hc n]
    rfl

/-- With other contents outside the queue every event answers the same, but for those contents. -/
theorem exec_withContents {i : Instr} {s t : State} (hf : s.fifo.Inv) (h : exec i s = .next t) {y : List Host.Cell}
    (ha : s.fifo.Agrees y) (n : Nat) :
    exec i (s.withContents y n) = .next (t.withContents (arrayAfter i s y) n) := by
  cases i with
  | push b => exact push_withContents h y n
  | rdRxdata => exact rdRxdata_withContents hf h ha n
  | wrCmd d =>
    obtain ⟨hd, rfl⟩ | ⟨hd, rfl⟩ := exec_wrCmd_next.1 h
    · exact exec_wrCmd_next.2 (.inl ⟨hd, rfl⟩)
    · exact exec_wrCmd_next.2 (.inr ⟨hd, rfl⟩)
  | tick =>
    obtain ⟨hen, rfl⟩ | ⟨hen, rfl⟩ := exec_tick_next.1 h
    · exact exec_tick_next.2 (.inl ⟨hen, rfl⟩)
    · exact exec_tick_next.2 (.inr ⟨hen, rfl⟩)
  | _ => cases h; rfl

/-- The array after an event is the old one, with the byte that was stored. -/
theorem exec_array {i : Instr} {s t : State} (h : exec i s = .next t) : t.fifo.x = arrayAfter i s s.fifo.x := by
  by_cases hi : ∃ b, i = .push b
  · obtain ⟨b, rfl⟩ := hi
    obtain ⟨hrx, rfl⟩ | ⟨-, hfull, rfl⟩ | ⟨hrx, hfull, -, rfl⟩ := exec_push_next.1 h
    · rw [arrayAfter_push_of_masked hrx]
    · rw [arrayAfter_push_of_full hfull]; rfl
    · rw [arrayAfter_push_of_stored hrx hfull]; rfl
  · rw [arrayAfter_of_ne_push hi]
    obtain heq | ⟨-, -, heq⟩ | ⟨d, -, heq⟩ | ⟨b, hpush, -, -⟩ := (exec_next h).fifo_cases
    · rw [heq]
    · rw [heq, Fifo.advanceRead_x]
    · rw [heq, Fifo.flush_x]
    · exact absurd ⟨b, hpush⟩ hi

namespace Fifo.Agrees

variable {f : Fifo} {y : List Host.Cell}

theorem store (ha : f.Agrees y) (hf : f.Inv) (hfull : f.full = false) (b : Byte) :
    (f.store b).Agrees (Memory.write y f.wr_idx.toNat b) where
  canonical := Memory.write_wf ha.canonical _ _
  inside := by
    intro c hc
    obtain rfl | hc := Memory.mem_write hc
    · exact hf.wr_lt
    · exact ha.inside c hc
  unread := by
    intro k hk
    rw [Fifo.store_count, hf.count_succ_toNat hfull] at hk
    change Memory.read _ (f.slot k) = Memory.read (Memory.write f.x f.wr_idx.toNat b) (f.slot k)
    obtain hlt | rfl := Nat.lt_succ_iff_lt_or_eq.1 hk
    · have hne := hf.slot_ne_wr_idx hfull hlt
      rw [Memory.read_write_other _ _ hne, Memory.read_write_other _ _ hne, ha.unread k hlt]
    · rw [hf.slot_count, Memory.read_write_same, Memory.read_write_same]

theorem advanceRead (ha : f.Agrees y) (hf : f.Inv) (hc : f.count ≠ 0) : f.advanceRead.Agrees y where
  canonical := ha.canonical
  inside := ha.inside
  unread := by
    intro k hk
    rw [Fifo.advanceRead_count, Fifo.count_pred_toNat hc] at hk
    rw [hf.slot_advanceRead]
    exact ha.unread (k + 1) (by omega)

theorem flush (ha : f.Agrees y) : f.flush.Agrees y :=
  ⟨ha.canonical, ha.inside, fun _ hk => absurd hk (Nat.not_lt_zero _)⟩

theorem self (hf : f.Inv) : f.Agrees f.x := ⟨hf.canonical, hf.inside, fun _ _ => rfl⟩

end Fifo.Agrees

theorem exec_agrees {i : Instr} {s t : State} (hf : s.fifo.Inv) (h : exec i s = .next t) {y : List Host.Cell}
    (ha : s.fifo.Agrees y) : t.fifo.Agrees (arrayAfter i s y) := by
  by_cases hi : ∃ b, i = .push b
  · obtain ⟨b, rfl⟩ := hi
    obtain ⟨hrx, rfl⟩ | ⟨-, hfull, rfl⟩ | ⟨hrx, hfull, -, rfl⟩ := exec_push_next.1 h
    · rwa [arrayAfter_push_of_masked hrx]
    · rwa [arrayAfter_push_of_full hfull]
    · rw [arrayAfter_push_of_stored hrx hfull]
      exact ha.store hf hfull b
  · rw [arrayAfter_of_ne_push hi]
    obtain heq | ⟨-, hc, heq⟩ | ⟨d, -, heq⟩ | ⟨b, hpush, -, -⟩ := (exec_next h).fifo_cases
    · exact heq ▸ ha
    · exact heq ▸ ha.advanceRead hf hc
    · exact heq ▸ ha.flush
    · exact absurd ⟨b, hpush⟩ hi

/-- Settles O28: the unspecified contents alone are the case in which the array is the old one. -/
theorem unwrittenEntriesAreNeverObserved : Obligations.UnwrittenEntriesAreNeverObserved := by
  intro i s t n hf h
  constructor
  · have hself := exec_withContents hf h (.self hf) n
    rwa [← exec_array h] at hself
  · intro y hwf hinside hunread
    have ha : s.fifo.Agrees y := ⟨hwf, hinside, hunread⟩
    obtain ⟨hwf', hinside', hunread'⟩ := exec_agrees hf h ha
    exact ⟨arrayAfter i s y, exec_withContents hf h ha n, hwf', hinside', hunread'⟩

/-! ## The surroundings -/

/-- Settles O53. -/
theorem eventsKeepTheSurroundings : Obligations.EventsKeepTheSurroundings := by
  intro i s t h
  have heff := exec_next h
  obtain ⟨hdata, hevent, hphase, hinputs, hcap, hera⟩ := heff.frame
  have hpush : t.pushPort.req = s.pushPort.req ∧ t.pushPort.reqSync = s.pushPort.reqSync ∧
      t.pushPort.ackSync = s.pushPort.ackSync ∧ (t.pushPort.ack ≠ s.pushPort.ack → ∃ b, i = .push b) := by
    obtain heq | ⟨b, hi, heq⟩ := heff.pushPort_cases <;> rw [heq]
    · exact ⟨rfl, rfl, rfl, absurd rfl⟩
    · exact ⟨rfl, rfl, rfl, fun _ => ⟨b, hi⟩⟩
  have htick : t.tickPort.req = s.tickPort.req ∧ t.tickPort.reqSync = s.tickPort.reqSync ∧
      t.tickPort.ackSync = s.tickPort.ackSync ∧ (t.tickPort.ack ≠ s.tickPort.ack → i = .tick) := by
    obtain heq | ⟨hi, heq⟩ := heff.tickPort_cases <;> rw [heq]
    · exact ⟨rfl, rfl, rfl, absurd rfl⟩
    · exact ⟨rfl, rfl, rfl, fun _ => hi⟩
  obtain ⟨hpreq, hpreqSync, hpackSync, hpack⟩ := hpush
  obtain ⟨htreq, htreqSync, htackSync, htack⟩ := htick
  exact ⟨hdata, hevent, hphase, hinputs, hpreq, hpreqSync, hpackSync, htreq, htreqSync, htackSync, hcap, hera,
    hpack, htack⟩

end Sys2Proof.Machine
end

/-! # The ports -/

section
namespace Sys2Proof.Machine

/-! ## An access beyond the array (10_state.md R21) -/

/-- Settles O18. -/
theorem indexBeyondTheArrayFaults : Obligations.IndexBeyondTheArrayFaults := by
  intro b s
  constructor
  · intro hrx hcount hwr
    have hfull : s.fifo.full = false := Fifo.full_eq_false.2 hcount
    have hnone : s.fifo.writeEntry s.fifo.wr_idx b = none := if_neg (Nat.not_lt.2 hwr)
    simp [show exec (.push b) s = execPush b s from rfl, execPush, hrx, hfull, storeByte, hnone]
  · intro hc hrd
    have hnone : s.fifo.readEntry s.fifo.rd_idx = none := if_neg (Nat.not_lt.2 hrd)
    rw [show exec .rdRxdata s = execRdRxdata s from rfl, execRdRxdata, if_neg hc, takeByte, hnone]

/-! ## A pending request becomes its event (10_state.md R39, R41) -/

theorem Port.pending_and_iff {p : Port} {en : Bool} :
    (p.pending && en) = true ↔ p.reqSync.second ≠ p.ack ∧ en = true := by
  rw [Bool.and_eq_true, Port.pending_iff]

/-- Settles O9. -/
theorem pendingPushBecomesTheEvent : Obligations.PendingPushBecomesTheEvent := by
  refine ⟨fun s he hp => ?_, fun s t b hrx h => ?_, fun bus w b hw => (Bus.word_ne_port hw).1 b⟩
  · rw [step_of_push_phase he hp, State.pushStep, pushWord_eq]
    simp only [Port.pending_and_iff]
  · obtain ⟨hrx', -⟩ | ⟨-, -, rfl⟩ | ⟨-, -, -, rfl⟩ := exec_push_next.1 h
    · simp [hrx] at hrx'
    · rfl
    · rfl

/-- Settles O10. -/
theorem pendingTickBecomesTheEvent : Obligations.PendingTickBecomesTheEvent := by
  refine ⟨fun s he hp => ?_, fun s t hen h => ?_, fun bus w hw => (Bus.word_ne_port hw).2⟩
  · rw [step_of_tick_phase he hp, State.tickStep, show eventWord kindTick 0 0 = 0xC000 by decide]
    simp only [Port.pending_and_iff]
  · obtain ⟨hen', -⟩ | ⟨-, rfl⟩ := exec_tick_next.1 h
    · simp [hen] at hen'
    · rfl

/-! ## A sender's edge (10_state.md R38, R40) -/

theorem step_producerClk {s : State} {o : Option Byte} {rest : List Input} (he : s.event = none)
    (hp : s.phase = .cycle) (hin : s.inputs = .producerClk o :: rest) :
    step s = { s with inputs := rest }.producerEdge o := by
  rw [step_of_cycle_phase he hp, State.takeInput, hin]

theorem step_tickGenClk {s : State} {o : Bool} {rest : List Input} (he : s.event = none) (hp : s.phase = .cycle)
    (hin : s.inputs = .tickGenClk o :: rest) : step s = { s with inputs := rest }.tickGenEdge o := by
  rw [step_of_cycle_phase he hp, State.takeInput, hin]

theorem producerEdge_some (s : State) (b : Byte) :
    s.producerEdge (some b) =
      if s.pushPort.free then .next { s with pushPort := s.pushPort.senderEdge.start, push_data := b }
      else .refused .pushUnacknowledged := rfl

theorem tickGenEdge_true (s : State) :
    s.tickGenEdge true =
      if s.tickPort.free then .next { s with tickPort := s.tickPort.senderEdge.start }
      else .refused .tickUnacknowledged := rfl

/-- Settles O11. -/
theorem sendersStartOneRequestAtATime : Obligations.SendersStartOneRequestAtATime := by
  intro s rest he hp
  refine ⟨fun b hin => ⟨fun hfree => ?_, fun hbusy => ?_⟩, fun hin => ⟨fun hfree => ?_, fun hbusy => ?_⟩,
    fun hin => ?_, fun hin => ?_⟩
  · rw [step_producerClk he hp hin, producerEdge_some, if_pos (Port.free_iff.2 hfree)]; rfl
  · rw [step_producerClk he hp hin, producerEdge_some, if_neg (mt Port.free_iff.1 hbusy)]
  · rw [step_tickGenClk he hp hin, tickGenEdge_true, if_pos (Port.free_iff.2 hfree)]; rfl
  · rw [step_tickGenClk he hp hin, tickGenEdge_true, if_neg (mt Port.free_iff.1 hbusy)]
  · rw [step_producerClk he hp hin]; rfl
  · rw [step_tickGenClk he hp hin]; rfl

/-! ## The latency of a push (log 9) -/

theorem steps_succ_of_next {s t : State} (h : step s = .next t) (k : Nat) : steps (k + 1) s = steps k t := by
  rw [steps, h, andThen]

theorem step_no_input {s : State} (he : s.event = none) (hp : s.phase = .cycle) (hin : s.inputs = []) :
    step s = .next { s.clkEdge with event := none, phase := .push } := by
  rw [step_of_cycle_phase he hp, State.takeInput, hin]
  rfl

theorem pushStep_of_quiet {s : State} (h : (s.pushPort.pending && s.ctrl.rx_en) = false) :
    s.pushStep = { s with phase := .tick, event := none } := by simp [State.pushStep, h]

theorem tickStep_of_quiet {s : State} (h : (s.tickPort.pending && s.ctrl.tick_en) = false) :
    s.tickStep = { s with phase := .cycle, event := none } := by simp [State.tickStep, h]

/-- A cycle with idle wires in which neither port spells an event is three steps, and is its clock edge alone. -/
theorem steps_quiet_cycle {s : State} (he : s.event = none) (hp : s.phase = .cycle) (hin : s.inputs = [])
    (hpush : (s.pushPort.coreEdge.pending && s.ctrl.rx_en) = false)
    (htick : (s.tickPort.coreEdge.pending && s.ctrl.tick_en) = false) (k : Nat) :
    steps (k + 3) s = steps k s.clkEdge := by
  have hlast : { s.clkEdge with phase := .cycle, event := none } = s.clkEdge := by
    simp only [State.clkEdge, ← he, ← hp]
  rw [steps_succ_of_next (step_no_input he hp hin), steps_succ_of_next (step_of_push_phase rfl rfl),
    pushStep_of_quiet hpush, steps_succ_of_next (step_of_tick_phase rfl rfl), tickStep_of_quiet htick, ← hlast]

/-- Settles O12: the first cycle is quiet, because the request has reached one flop only; in the PUSH step of the second
it has reached both. -/
theorem startedPushArrivesInTheSecondCycle : Obligations.StartedPushArrivesInTheSecondCycle := by
  intro s he hp hin hrx htick hreq hfirst _
  have hquiet : (s.pushPort.coreEdge.pending && s.ctrl.rx_en) = false := by simp [Port.pending, hfirst]
  have hmasked : (s.tickPort.coreEdge.pending && s.ctrl.tick_en) = false := by simp [htick]
  have harrived : (s.pushPort.coreEdge.coreEdge.pending && s.ctrl.rx_en) = true :=
    Port.pending_and_iff.2 ⟨hreq, hrx⟩
  have hrun : steps 5 s = .next (State.pushStep { s.clkEdge.clkEdge with event := none, phase := .push }) := by
    rw [steps_quiet_cycle he hp hin hquiet hmasked 2]
    exact (steps_succ_of_next (step_no_input (s := s.clkEdge) he hp hin) 1).trans
      (steps_succ_of_next (step_of_push_phase rfl rfl) 0)
  refine ⟨_, hrun, ?_, rfl, rfl⟩
  rw [State.pushStep_event, ← pushWord_eq]
  exact if_pos harrived

end Sys2Proof.Machine
end

/-! # Events in a cycle and in a row (20_memory.md R56, R60, R61, R65) -/

section
namespace Sys2Proof.Machine

/-! ## The event that waits (R61) -/

theorem step_of_event {s : State} {w : EventWord} (he : s.event = some w) :
    step s = perform exec w { s with event := none } := by simp [step, he]

/-- Settles O6. -/
theorem stepPerformsTheWaitingEvent : Obligations.StepPerformsTheWaitingEvent := by
  intro s w i he hd
  rw [step_of_event he, perform_ok hd]

/-! ## Several steps -/

@[simp] theorem andThen_next (s : State) (f : State → Outcome) : andThen (.next s) f = f s := rfl
@[simp] theorem andThen_fault (r : Fault) (f : State → Outcome) : andThen (.fault r) f = .fault r := rfl
@[simp] theorem andThen_refused (r : Refusal) (f : State → Outcome) : andThen (.refused r) f = .refused r := rfl

theorem andThen_next_right (o : Outcome) : andThen o .next = o := by cases o <;> rfl

theorem andThen_assoc (o : Outcome) (f g : State → Outcome) :
    andThen (andThen o f) g = andThen o fun s => andThen (f s) g := by cases o <;> rfl

theorem steps_one (s : State) : steps 1 s = step s := andThen_next_right (step s)

theorem steps_add (m n : Nat) (s : State) : steps (m + n) s = andThen (steps m s) (steps n) := by
  induction m generalizing s with
  | zero => rw [Nat.zero_add, steps, andThen_next]
  | succ m ih =>
    rw [Nat.add_right_comm, steps, steps, andThen_assoc]
    exact congrArg (andThen (step s)) (funext ih)

/-- Some number of steps from `s`, at least `lo` and at most `hi`, answers `o`. -/
def DoneIn (lo hi : Nat) (s : State) (o : Outcome) : Prop := ∃ n, lo ≤ n ∧ n ≤ hi ∧ steps n s = o

namespace DoneIn

variable {lo hi lo' hi' : Nat} {s t : State} {o : Outcome}

theorem after_step (h : DoneIn lo hi t o) (hs : step s = .next t) : DoneIn (lo + 1) (hi + 1) s o := by
  obtain ⟨n, hlo, hhi, hn⟩ := h
  exact ⟨n + 1, by omega, by omega, (steps_succ_of_next hs n).trans hn⟩

/-- Two parts, one after the other; a stop in the first leaves nothing to do for the steps of the second. -/
theorem seq {f : State → Outcome} (h : DoneIn lo hi s o) (hle : lo' ≤ hi')
    (hf : ∀ t, o = .next t → DoneIn lo' hi' t (f t)) :
    DoneIn (lo + lo') (hi + hi') s (andThen o f) := by
  obtain ⟨m, hlo, hhi, hm⟩ := h
  cases o with
  | next t =>
    obtain ⟨n, hlo', hhi', hn⟩ := hf t rfl
    exact ⟨m + n, by omega, by omega, by rw [steps_add, hm, andThen_next, andThen_next, hn]⟩
  | fault r => exact ⟨m + lo', by omega, by omega, by rw [steps_add, hm, andThen_fault, andThen_fault]⟩
  | refused r => exact ⟨m + lo', by omega, by omega, by rw [steps_add, hm, andThen_refused, andThen_refused]⟩

end DoneIn

/-! ## One clock cycle (R60) -/

/-- A word that waits takes one step, and none waiting takes none. -/
theorem steps_waiting {s : State} (he : s.event = none) (w : Option EventWord) :
    steps w.isSome.toNat { s with event := w } = cycleBus w s := by
  have hnone : { s with event := none } = s := by rw [← he]
  cases w with
  | none => exact congrArg Host.Outcome.next hnone
  | some w =>
    refine (steps_one _).trans ((step_of_event rfl).trans ?_)
    exact congrArg (perform exec w) hnone

/-- The bus event leaves the place in the cycle, and no word waits after it. -/
theorem cycleBus_frame {w : Option EventWord} {s t : State} (h : cycleBus w s = .next t) :
    t.event = s.event ∧ t.phase = s.phase := by
  cases w with
  | none => cases h; exact ⟨rfl, rfl⟩
  | some w =>
    obtain ⟨i, -, hi⟩ := perform_next h
    obtain ⟨-, hevent, hphase, -⟩ := (exec_next hi).frame
    exact ⟨hevent, hphase⟩

/-- The PUSH part performs the word that the push port spells. -/
theorem cyclePush_eq (s : State) : cyclePush s = cycleBus s.pushStep.event s := by
  rw [cyclePush, State.pushStep_event]
  split
  · exact (perform_ok (decode_pushWord _) s).symm
  · rfl

/-- The TICK part performs the word that the tick port spells. -/
theorem cycleTick_eq (s : State) : cycleTick s = cycleBus s.tickStep.event s := by
  rw [cycleTick, State.tickStep_event]
  split
  · exact (perform_ok decode_tickWord s).symm
  · rfl

/-- A step that spells a word or none, and the step of that word. -/
theorem doneIn_spelled {s t : State} {w : Option EventWord} (hs : step s = .next { t with event := w })
    (ht : t.event = none) : DoneIn 1 2 s (cycleBus w t) :=
  ⟨w.isSome.toNat + 1, by omega, Nat.succ_le_succ (Bool.toNat_le _),
    (steps_succ_of_next hs _).trans (steps_waiting ht w)⟩

theorem doneIn_cyclePush {s : State} (he : s.event = none) (hp : s.phase = .push) :
    DoneIn 1 2 s (cyclePush { s with phase := .tick }) := by
  rw [cyclePush_eq]
  exact doneIn_spelled (step_of_push_phase he hp) he

theorem doneIn_cycleTick {s : State} (he : s.event = none) (hp : s.phase = .tick) :
    DoneIn 1 2 s (cycleTick { s with phase := .cycle }) := by
  rw [cycleTick_eq]
  exact doneIn_spelled (step_of_tick_phase he hp) he

/-- From the clock edge on, the steps are the bus event, the PUSH part and the TICK part, each begun with no word
waiting because no event leaves one. -/
theorem doneIn_wholeCycle {s : State} (he : s.event = none) (w : Option EventWord) :
    DoneIn 2 (w.isSome.toNat + 4) { s with event := w, phase := .push } (wholeCycle w s) := by
  have hbus : DoneIn 0 w.isSome.toNat { s with event := w, phase := .push } (cycleBus w { s with phase := .push }) :=
    ⟨_, Nat.zero_le _, le_rfl, steps_waiting (s := { s with phase := .push }) he w⟩
  refine hbus.seq (lo' := 1 + 1) (hi' := 2 + 2) (by decide) fun s1 h1 => ?_
  obtain ⟨he1, hp1⟩ := cycleBus_frame h1
  refine (doneIn_cyclePush (he1.trans he) hp1).seq (by decide) fun s2 h2 => ?_
  rw [cyclePush_eq] at h2
  obtain ⟨he2, hp2⟩ := cycleBus_frame h2
  exact doneIn_cycleTick (he2.trans (he1.trans he)) hp2

/-- Every cycle with `rst` = 0 and at most one strobe begins with the clock edge and the word of its bus. -/
theorem step_clk {s : State} {b : Bus} {rest : List Input} (he : s.event = none) (hp : s.phase = .cycle)
    (hin : s.inputs = .clk false b :: rest) (hb : (b.re && b.we) = false) :
    step s = .next { s.clkEdge with inputs := rest, event := b.word, phase := .push } := by
  rw [step_of_cycle_phase he hp, State.takeInput, hin]
  simp only [State.beginCycle, hb, Bool.false_eq_true, if_false]
  rfl

/-- Settles O8: the step that begins the cycle, then the steps of the whole cycle; a bus event is one step of them. -/
theorem cycleIsBusThenPushThenTick : Obligations.CycleIsBusThenPushThenTick := by
  intro s he hp
  constructor
  · intro b rest hin hb
    have hcycle := doneIn_wholeCycle (s := { s.clkEdge with inputs := rest }) he b.word
    obtain ⟨n, hlo, hhi, hn⟩ := hcycle.after_step (step_clk he hp hin hb)
    have hword := Bool.toNat_le b.word.isSome
    exact ⟨n, hlo, by omega, hn⟩
  · intro hin
    exact (doneIn_wholeCycle (s := s.clkEdge) he none).after_step (step_no_input he hp hin)

/-! ## Writing twice (R56) -/

theorem TickSource.clearFlags_clearFlags (t : TickSource) (d : Byte) :
    (t.clearFlags d).clearFlags d = t.clearFlags d := by simp [TickSource.clearFlags]

/-- Settles O54. -/
theorem writingTwiceIsWritingOnce : Obligations.WritingTwiceIsWritingOnce := by
  intro d i s t hi h
  simp only [List.mem_cons, List.not_mem_nil, or_false] at hi
  obtain rfl | rfl | rfl | rfl | rfl | rfl := hi
  · cases h; rfl
  · obtain ⟨_, rfl⟩ | ⟨hd, rfl⟩ := exec_wrCmd_next.1 h
    · exact h
    · exact exec_wrCmd_next.2 (.inr ⟨hd, rfl⟩)
  · cases h
    exact congrArg (fun f => Host.Outcome.next (s.setTick f)) (s.tick.clearFlags_clearFlags d)
  all_goals cases h; rfl

/-! ## Sequences of events (R63) -/

theorem eventRun_cons_eq_some {i : Instr} {is : List Instr} {s t : State} {popped stored : List Byte} :
    eventRun s (i :: is) = some (t, popped, stored) ↔
      ∃ u popped' stored', exec i s = .next u ∧ eventRun u is = some (t, popped', stored') ∧
        popped = poppedBy i s u ++ popped' ∧ stored = storedBy i s ++ stored' := by
  rw [eventRun]
  cases exec i s with
  | next u => simp [eq_comm]
  | fault r => simp
  | refused r => simp

/-- What every event of a sequence keeps holds at its end. -/
theorem eventRun_keeps {P : State → Prop} {is : List Instr} {s t : State} {popped stored : List Byte}
    (hkeep : ∀ i ∈ is, ∀ s t, P s → exec i s = .next t → P t) (hs : P s)
    (h : eventRun s is = some (t, popped, stored)) : P t := by
  induction is generalizing s popped stored with
  | nil => cases h; exact hs
  | cons i is ih =>
    obtain ⟨u, _, _, hexec, hrun, -, -⟩ := eventRun_cons_eq_some.1 h
    have hu : P u := hkeep i List.mem_cons_self s u hs hexec
    exact ih (fun j hj => hkeep j (List.mem_cons_of_mem i hj)) hu hrun

/-! ## Bytes wait until they are popped (R65, 40_fifo.md R112) -/

theorem Fifo.queue_eq_nil_iff {f : Fifo} : f.queue = [] ↔ f.count = 0 :=
  ⟨fun h => BitVec.eq_of_toNat_eq (by rw [← Fifo.queue_length, h]; rfl), Fifo.queue_eq_nil⟩

/-- An event that neither pops nor flushes keeps the waiting bytes, in their order, at the front. -/
theorem queue_prefix {i : Instr} {s t : State} (hf : s.fifo.Inv) (hpop : i ≠ .rdRxdata)
    (hflush : ∀ d, i = .wrCmd d → d.getLsbD 0 = false) (h : exec i s = .next t) : s.fifo.queue <+: t.fifo.queue := by
  cases i with
  | push b =>
    rw [push_queue hf h]
    split
    · exact List.prefix_append _ _
    · exact List.prefix_rfl
  | rdRxdata => exact absurd rfl hpop
  | wrCmd d => simp only [wrCmd_queue h, hflush d rfl, Bool.false_eq_true, if_false, List.prefix_rfl]
  | _ => rw [(exec_next h).fifo_eq nofun nofun nofun]

/-- With a byte waiting, an RXDATA read answers, with the oldest one, and leaves one fewer. -/
theorem rdRxdata_of_waiting {s : State} (hf : s.fifo.Inv) (hc : s.fifo.count ≠ 0) :
    ∃ t, exec .rdRxdata s = .next t ∧ s.fifo.queue.head? = some t.bus_rdata ∧
      t.fifo.count.toNat + 1 = s.fifo.count.toNat := by
  refine ⟨_, exec_rdRxdata_next.2 (.inr ⟨hc, hf.rd_lt, rfl⟩), ?_, ?_⟩
  · rw [hf.queue_eq_cons hc]; rfl
  · exact (congrArg (· + 1) (Fifo.count_pred_toNat hc)).trans (Nat.sub_add_cancel (Fifo.count_toNat_pos hc))

/-- Settles O29: along the sequence the bytes that wait at its start stay at the front of the queue, so the oldest of
them is what the next pop finds. -/
theorem availLastsUntilThePop : Obligations.AvailLastsUntilThePop := by
  intro is s t popped stored hf hc hquiet hrun
  have hne : s.fifo.queue ≠ [] := mt Fifo.queue_eq_nil_iff.1 hc
  obtain ⟨hft, hprefix⟩ : t.fifo.Inv ∧ s.fifo.queue <+: t.fifo.queue := by
    refine eventRun_keeps (P := fun u => u.fifo.Inv ∧ s.fifo.queue <+: u.fifo.queue) ?_ ⟨hf, List.prefix_rfl⟩ hrun
    intro i hi u v ⟨hfu, hu⟩ h
    obtain ⟨hpop, hflush⟩ := hquiet i hi
    exact ⟨(exec_next h).fifo_inv hfu, hu.trans (queue_prefix hfu hpop hflush h)⟩
  have hct : t.fifo.count ≠ 0 := mt Fifo.queue_eq_nil_iff.2 (hprefix.ne_nil hne)
  obtain ⟨u, hu, hhead, hcount⟩ := rdRxdata_of_waiting hft hct
  obtain ⟨later, happend⟩ := hprefix
  rw [← happend, List.head?_append_of_ne_nil _ hne] at hhead
  exact ⟨hct, u, hu, hhead, hcount⟩

end Sys2Proof.Machine
end

/-! # Event words (30_encoding.md) -/

section
namespace Sys2Proof

/-! ## The decoder, one equation per KIND (R77) -/

theorem kind_cases (k : BitVec 2) : k = kindRead ∨ k = kindWrite ∨ k = kindPush ∨ k = kindTick := by
  revert k; decide

theorem decode_of_rsv {w : EventWord} (hr : rsvOf w = 1#1) : decode w = .error .reservedBitSet := if_pos hr

section
variable {w : EventWord} (hr : rsvOf w = 0#1)
include hr

theorem decode_of_kindRead (hk : kindOf w = kindRead) :
    decode w = if dataOf w = 0 then .ok (readEvent (addrOf w)) else .error .readCarriesData := by
  simp [decode, hr, hk]

theorem decode_of_kindWrite (hk : kindOf w = kindWrite) : decode w = .ok (writeEvent (addrOf w) (dataOf w)) := by
  simp [decode, hr, hk, kindWrite, kindRead]

theorem decode_of_kindPush (hk : kindOf w = kindPush) :
    decode w = if addrOf w = 0 then .ok (.push (dataOf w)) else .error .pushCarriesAddress := by
  simp [decode, hr, hk, kindPush, kindWrite, kindRead]

theorem decode_of_kindTick (hk : kindOf w = kindTick) :
    decode w = if addrOf w = 0 ∧ dataOf w = 0 then .ok .tick else .error .tickCarriesOperand := by
  by_cases hzero : addrOf w = 0 ∧ dataOf w = 0
  · simp [decode, hr, hk, kindTick, kindPush, kindWrite, kindRead, hzero]
  · rw [if_neg hzero, decode, hr, hk]
    simpa [kindTick, kindPush, kindWrite, kindRead] using hzero

end

/-! ## The register at an address (R76) -/

theorem ofNat_of_toNat_eq {a : Addr} {n : Nat} (h : a.toNat = n) : BitVec.ofNat 5 n = a := by
  rw [← h, BitVec.ofNat_toNat, BitVec.setWidth_eq]

theorem readEvent_wellFormed (a : Addr) : (readEvent a).wellFormed = true := by
  have hlt := a.isLt
  unfold readEvent
  split
  case h_21 =>
    simp only [imp_false] at *
    split <;> simp only [Instr.wellFormed, decide_eq_true_eq] <;> omega
  all_goals rfl

theorem writeEvent_wellFormed (a : Addr) (d : Byte) : (writeEvent a d).wellFormed = true := by
  have hlt := a.isLt
  unfold writeEvent
  split
  case h_21 =>
    simp only [imp_false] at *
    split <;> simp only [Instr.wellFormed, decide_eq_true_eq] <;> omega
  all_goals rfl

theorem encode_readEvent (a : Addr) : encode (readEvent a) = eventWord kindRead a 0 := by
  unfold readEvent
  split
  case h_21 => split <;> rfl
  all_goals exact congrArg (eventWord kindRead · 0) (ofNat_of_toNat_eq ‹_›)

theorem encode_writeEvent (a : Addr) (d : Byte) : encode (writeEvent a d) = eventWord kindWrite a d := by
  unfold writeEvent
  split
  case h_21 => split <;> rfl
  all_goals exact congrArg (eventWord kindWrite · d) (ofNat_of_toNat_eq ‹_›)

theorem readEvent_of_14to17 {a : Addr} (h : 0x14 ≤ a.toNat ∧ a.toNat ≤ 0x17) : readEvent a = .rdRsvd14to17 a := by
  unfold readEvent
  split
  case h_21 => exact if_pos h.2
  all_goals omega

theorem readEvent_of_18to1F {a : Addr} (h : 0x18 ≤ a.toNat ∧ a.toNat ≤ 0x1F) : readEvent a = .rdRsvd18to1F a := by
  unfold readEvent
  split
  case h_21 => exact if_neg (by omega)
  all_goals omega

theorem writeEvent_of_14to17 {a : Addr} (h : 0x14 ≤ a.toNat ∧ a.toNat ≤ 0x17) (d : Byte) :
    writeEvent a d = .wrRsvd14to17 a d := by
  unfold writeEvent
  split
  case h_21 => exact if_pos h.2
  all_goals omega

theorem writeEvent_of_18to1F {a : Addr} (h : 0x18 ≤ a.toNat ∧ a.toNat ≤ 0x1F) (d : Byte) :
    writeEvent a d = .wrRsvd18to1F a d := by
  unfold writeEvent
  split
  case h_21 => exact if_neg (by omega)
  all_goals omega

/-! ## The four formats (R71..R74) -/

/-- A word and the event it spells: one constructor per format. -/
inductive Spells : EventWord → Instr → Prop
  | read (a : Addr) : Spells (eventWord kindRead a 0) (readEvent a)
  | write (a : Addr) (d : Byte) : Spells (eventWord kindWrite a d) (writeEvent a d)
  | push (b : Byte) : Spells (eventWord kindPush 0 b) (.push b)
  | tick : Spells (eventWord kindTick 0 0) .tick

theorem Spells.decode_eq {w : EventWord} {i : Instr} (h : Spells w i) : decode w = .ok i := by
  cases h with
  | read a => simp [decode_of_kindRead]
  | write a d => simp [decode_of_kindWrite]
  | push b => exact Machine.decode_pushWord b
  | tick => exact Machine.decode_tickWord

theorem Spells.wellFormed {w : EventWord} {i : Instr} (h : Spells w i) : i.wellFormed = true := by
  cases h with
  | read a => exact readEvent_wellFormed a
  | write a d => exact writeEvent_wellFormed a d
  | push b => rfl
  | tick => rfl

theorem Spells.encode_eq {w : EventWord} {i : Instr} (h : Spells w i) : encode i = w := by
  cases h with
  | read a => exact encode_readEvent a
  | write a d => exact encode_writeEvent a d
  | push b => rfl
  | tick => rfl

/-- A legal word has one of the four formats: it is its fields, and the decoder has tested those that must be 0. -/
theorem spells_of_decode {w : EventWord} {i : Instr} (h : decode w = .ok i) : Spells w i := by
  obtain hr | hr := BitVec.eq_zero_or_eq_one (rsvOf w)
  · rw [← eventWord_of_fields w hr]
    obtain hk | hk | hk | hk := kind_cases (kindOf w)
    · rw [decode_of_kindRead hr hk] at h
      split at h
      next hd => cases h; rw [hk, hd]; exact .read _
      next => cases h
    · rw [decode_of_kindWrite hr hk] at h
      cases h; rw [hk]; exact .write _ _
    · rw [decode_of_kindPush hr hk] at h
      split at h
      next ha => cases h; rw [hk, ha]; exact .push _
      next => cases h
    · rw [decode_of_kindTick hr hk] at h
      split at h
      next hzero =>
        obtain ⟨ha, hd⟩ := hzero
        cases h; rw [hk, ha, hd]; exact .tick
      next => cases h
  · rw [decode_of_rsv hr] at h
    cases h

/-- The encoder writes a well-formed event in its format; of the reserved groups, only the addresses of the group are
read as that group. -/
theorem spells_encode {i : Instr} (h : i.wellFormed = true) : Spells (encode i) i := by
  cases i with
  | rdRsvd14to17 a => exact readEvent_of_14to17 (of_decide_eq_true h) ▸ encode_readEvent a ▸ .read a
  | rdRsvd18to1F a => exact readEvent_of_18to1F (of_decide_eq_true h) ▸ encode_readEvent a ▸ .read a
  | wrRsvd14to17 a d => exact writeEvent_of_14to17 (of_decide_eq_true h) d ▸ encode_writeEvent a d ▸ .write a d
  | wrRsvd18to1F a d => exact writeEvent_of_18to1F (of_decide_eq_true h) d ▸ encode_writeEvent a d ▸ .write a d
  | push b => exact .push b
  | tick => exact .tick
  | rdStatus | rdRxdata | rdCount | rdCapacity | rdCtrl | rdCmd | rdFlags | rdFastRatio | rdMedRatio | rdSlowRatio
  | rdFastDiv | rdMedDiv | rdSlowDiv | rdTick0 | rdTick1 | rdTick2 | rdTick3 | rdRsvd07 | rdRsvd0B
  | rdRsvd0F => exact .read _
  | wrStatus d | wrRxdata d | wrCount d | wrCapacity d | wrCtrl d | wrCmd d | wrFlags d | wrFastRatio d | wrMedRatio d
  | wrSlowRatio d | wrFastDiv d | wrMedDiv d | wrSlowDiv d | wrTick0 d | wrTick1 d | wrTick2 d | wrTick3 d
  | wrRsvd07 d | wrRsvd0B d | wrRsvd0F d => exact .write _ d

/-- Settles O2: the encoder writes the event in its format, and the decoder reads every format back. -/
theorem decodeOfEncodeIsTheEvent : Obligations.DecodeOfEncodeIsTheEvent :=
  fun _ h => (spells_encode h).decode_eq

/-- Settles O3: a legal word has one of the formats, and each is the encoder's. -/
theorem encodeOfDecodeIsTheWord : Obligations.EncodeOfDecodeIsTheWord := by
  intro w i h
  have hspells := spells_of_decode h
  exact ⟨hspells.wellFormed, hspells.encode_eq⟩

/-- Settles O1: each word is the encoding of its event. -/
theorem wordsOfTheSpecDecode : Obligations.WordsOfTheSpecDecode := by
  have hdecode := decodeOfEncodeIsTheEvent
  exact ⟨hdecode .rdStatus rfl, hdecode .rdTick3 rfl, hdecode .rdRsvd07 rfl, hdecode (.rdRsvd18to1F 0x1F) rfl,
    hdecode (.wrCtrl 0x03) rfl, hdecode (.wrCmd 0x01) rfl, hdecode (.wrRsvd18to1F 0x1F 0xFF) rfl,
    hdecode (.push 0x56) rfl, hdecode .tick rfl⟩

/-! ## The illegal words (R79) -/

theorem rsvOf_eq_one_iff (w : EventWord) : rsvOf w = 1#1 ↔ w.getLsbD 13 = true := by
  rw [rsvOf, BitVec.eq_of_getLsbD_eq_iff]
  simp

/-- A test that passes answers no error, and one that fails answers one. -/
theorem exists_error_ite {c : Prop} [Decidable c] {i : Instr} {e : DecodeError} :
    (∃ e', (if c then Except.ok i else .error e) = .error e') ↔ ¬c := by
  by_cases hc : c <;> simp [hc]

/-- Each KIND with RSV = 0 is refused for the fields that must be 0 in it, and a write for none. -/
theorem decode_error_iff (w : EventWord) :
    (∃ e, decode w = .error e) ↔
      rsvOf w = 1#1 ∨ (kindOf w = kindRead ∧ dataOf w ≠ 0) ∨ (kindOf w = kindPush ∧ addrOf w ≠ 0) ∨
        (kindOf w = kindTick ∧ (addrOf w ≠ 0 ∨ dataOf w ≠ 0)) := by
  obtain hr | hr := BitVec.eq_zero_or_eq_one (rsvOf w)
  · obtain hk | hk | hk | hk := kind_cases (kindOf w)
    · rw [decode_of_kindRead hr hk, exists_error_ite, hr, hk]
      simp [kindRead, kindPush, kindTick]
    · rw [decode_of_kindWrite hr hk, hr, hk]
      simp [kindRead, kindWrite, kindPush, kindTick]
    · rw [decode_of_kindPush hr hk, exists_error_ite, hr, hk]
      simp [kindRead, kindPush, kindTick]
    · rw [decode_of_kindTick hr hk, exists_error_ite, hr, hk, not_and_or]
      simp [kindRead, kindPush, kindTick]
  · simp [decode_of_rsv hr, hr]

end Sys2Proof

namespace Sys2Proof.Machine

theorem step_bothStrobes {s : State} {b : Bus} {rest : List Input} (he : s.event = none) (hp : s.phase = .cycle)
    (hin : s.inputs = .clk false b :: rest) (hre : b.re = true) (hwe : b.we = true) :
    step s = .refused .bothStrobes := by
  rw [step_of_cycle_phase he hp, State.takeInput, hin]
  simp [State.beginCycle, hre, hwe]

/-- Settles O4: the word's kinds are those of `decode_error_iff`, read from its bits. -/
theorem illegalWordsAreRefused : Obligations.IllegalWordsAreRefused := by
  refine ⟨fun w => ?_, fun s w e he hd => ?_, fun s b rest => step_bothStrobes⟩
  · rw [← rsvOf_eq_one_iff]
    exact decode_error_iff w
  · rw [step_of_event he, perform_error hd]

/-! ## The words of the bus (R71, R72) -/

theorem eventWord_eq (k : BitVec 2) (a : Addr) (d : Byte) :
    eventWord k a d = k.zeroExtend 16 <<< 14 ||| a.zeroExtend 16 <<< 8 ||| d.zeroExtend 16 := by
  apply BitVec.eq_of_getLsbD_eq
  intro i hi
  simp only [eventWord, BitVec.getLsbD_append]
  interval_cases i <;> simp

theorem readWord_eq (a : Addr) : eventWord kindRead a 0 = a.zeroExtend 16 <<< 8 := by
  simp [eventWord_eq, kindRead]

theorem writeWord_eq (a : Addr) (d : Byte) :
    eventWord kindWrite a d = 0x4000 ||| a.zeroExtend 16 <<< 8 ||| d.zeroExtend 16 := eventWord_eq kindWrite a d

/-- Settles O5: the step of `step_clk`, with the word of the bus as a number. -/
theorem busCyclesSpellTheirWords : Obligations.BusCyclesSpellTheirWords := by
  intro s b rest he hp hin
  refine ⟨fun hre hwe => ?_, fun hre hwe => ?_, fun hre hwe => ?_⟩
  · have hword : b.word = some (eventWord kindRead b.addr 0) := by simp [Bus.word, hre]
    rw [step_clk he hp hin (by simp [hwe]), hword, readWord_eq]
  · have hword : b.word = some (eventWord kindWrite b.addr b.wdata) := by simp [Bus.word, hre, hwe]
    rw [step_clk he hp hin (by simp [hre]), hword, writeWord_eq]
  · have hword : b.word = none := by simp [Bus.word, hre, hwe]
    rw [step_clk he hp hin (by simp [hre]), hword]

/-! ## A presented word (R73, R74; log 5) -/

theorem withFetchWord_toNat (s : State) (w : EventWord) : s.withFetchWord 16 w.toNat = s.present w := by
  rw [State.withFetchWord, Nat.mod_eq_of_lt w.isLt, BitVec.ofNat_toNat, BitVec.setWidth_eq]

section
variable {w : EventWord}

theorem present_push {b : Byte} (hd : decode w = .ok (.push b)) (s : State) :
    s.present w = { s with event := some w, pushPort := s.pushPort.requested, push_data := b } := by
  simp [State.present, hd]

theorem present_tick (hd : decode w = .ok .tick) (s : State) :
    s.present w = { s with event := some w, tickPort := s.tickPort.requested } := by simp [State.present, hd]

theorem present_bus {i : Instr} (hd : decode w = .ok i) (hpush : ∀ b, i ≠ .push b) (htick : i ≠ .tick) (s : State) :
    s.present w = { s with event := some w } := by
  rw [State.present, hd]
  split
  next b h => cases h; exact absurd rfl (hpush b)
  next h => cases h; exact absurd rfl htick
  next => rfl

end

theorem Port.requested_differs (p : Port) : p.requested.reqSync.second ≠ p.requested.ack :=
  Port.pending_iff.1 p.requested_pending

/-- Settles O7: the step is the event in the presented state with the word taken out, which differs from the old state
in the port of the event only. -/
theorem fetchWordIsPerformedNext : Obligations.FetchWordIsPerformedNext := by
  intro s w i hd
  rw [withFetchWord_toNat]
  by_cases hport : ∃ b, i = .push b
  · obtain ⟨b, rfl⟩ := hport
    rw [present_push hd, step_of_event rfl, perform_ok hd]
    refine ⟨_, rfl, rfl, rfl, rfl, rfl, rfl, rfl, rfl, rfl, rfl, ?_, fun hne => absurd rfl (hne b), nofun, fun _ => rfl⟩
    intro b' hb
    exact ⟨s.pushPort.requested_differs, Instr.push.inj hb⟩
  have hpush : ∀ b, i ≠ .push b := not_exists.1 hport
  by_cases htick : i = .tick
  · subst htick
    rw [present_tick hd, step_of_event rfl, perform_ok hd]
    exact ⟨_, rfl, rfl, rfl, rfl, rfl, rfl, rfl, rfl, rfl, rfl, nofun, fun _ => ⟨rfl, rfl⟩,
      fun _ => s.tickPort.requested_differs, absurd rfl⟩
  · rw [present_bus hd hpush htick, step_of_event rfl, perform_ok hd]
    exact ⟨_, rfl, rfl, rfl, rfl, rfl, rfl, rfl, rfl, rfl, rfl, fun b hb => absurd hb (hpush b), fun _ => ⟨rfl, rfl⟩,
      fun h => absurd h htick, fun _ => rfl⟩

end Sys2Proof.Machine
end

/-! # The events of the FIFO (40_fifo.md) -/

section
namespace Sys2Proof.Machine

/-! ## PUSH (R100) -/

theorem exec_push_stores {s : State} (hrx : s.ctrl.rx_en = true) (hcount : s.fifo.count.toNat ≠ s.fifo.cap)
    (hwr : s.fifo.wr_idx.toNat < s.fifo.cap) (b : Byte) :
    exec (.push b) s = .next (s.setFifo (s.fifo.store b)).ackPush :=
  exec_push_next.2 (.inr (.inr ⟨hrx, Fifo.full_eq_false.2 hcount, hwr, rfl⟩))

/-- Settles O16: the three cases of `exec_push_next`, and the read of a written array. -/
theorem pushHoldsDiscardsOrStores : Obligations.PushHoldsDiscardsOrStores := by
  intro b s
  refine ⟨pushWord_eq b, fun hrx => ?_, fun hrx hcount => ?_, fun hrx hcount hwr => ?_, fun a => ?_⟩
  · exact exec_push_next.2 (.inl ⟨hrx, rfl⟩)
  · exact exec_push_next.2 (.inr (.inl ⟨hrx, decide_eq_true hcount, rfl⟩))
  · exact exec_push_stores hrx hcount hwr b
  · exact Memory.read_write _ _ _ _

/-! ## CAP (R107) -/

/-- An event keeps CAP, and between events the FIFO stays or is reset with the same CAP. -/
theorem step_cap {s t : State} (h : step s = .next t) : t.fifo.cap = s.fifo.cap := by
  obtain ⟨w, i, -, -, hexec⟩ | ⟨-, hadv⟩ := step_next h
  · obtain ⟨-, -, -, -, hcap, -⟩ := (exec_next hexec).frame
    exact hcap
  · obtain ⟨hf, -⟩ | ⟨hf, -⟩ := advance_fifo_tick hadv <;> rw [hf]
    rfl

theorem CAP_pos : 1 ≤ Config.CAP := Nat.le_add_left _ _

theorem CAP_le : Config.CAP ≤ 255 := Config.capLessOne.isLt

/-- Settles O21. -/
theorem capacityIsConstant : Obligations.CapacityIsConstant :=
  ⟨fun _ => ⟨readWord_eq 0x03, rfl⟩, fun _ _ => step_cap, CAP_pos, CAP_le⟩

/-! ## The bytes that come out (R109, R110) -/

theorem storedBy_push {s : State} (hf : s.fifo.Inv) (b : Byte) :
    storedBy (.push b) s = if s.ctrl.rx_en = true ∧ s.fifo.queue.length < s.fifo.cap then [b] else [] := by
  simp only [Fifo.queue_length, hf.count_le.lt_iff_ne]
  rfl

/-- Without a flush, the bytes waiting before an event and the byte it stores are the byte it pops and the bytes waiting
after it. -/
theorem popped_append_queue {i : Instr} {s t : State} (hf : s.fifo.Inv)
    (hflush : ∀ d, i = .wrCmd d → d.getLsbD 0 = false) (h : exec i s = .next t) :
    poppedBy i s t ++ t.fifo.queue = s.fifo.queue ++ storedBy i s := by
  cases i with
  | push b =>
    rw [push_queue hf h, storedBy_push hf]
    split <;> simp [poppedBy]
  | rdRxdata =>
    obtain ⟨hc, rfl⟩ | ⟨hc, -, rfl⟩ := exec_rdRxdata_next.1 h
    · simp [poppedBy, storedBy, hc]
    · rw [poppedBy, if_pos ⟨rfl, hc⟩, hf.queue_eq_cons hc]
      exact (List.append_nil _).symm
  | wrCmd d =>
    rw [wrCmd_queue h, hflush d rfl]
    exact (List.append_nil _).symm
  | _ =>
    rw [(exec_next h).fifo_eq nofun nofun nofun]
    exact (List.append_nil _).symm

/-- A flush may lose waiting bytes, but no event brings up a byte that was neither waiting nor stored. -/
theorem popped_append_queue_sublist {i : Instr} {s t : State} (hf : s.fifo.Inv) (h : exec i s = .next t) :
    (poppedBy i s t ++ t.fifo.queue).Sublist (s.fifo.queue ++ storedBy i s) := by
  by_cases hflush : ∃ d, i = .wrCmd d ∧ d.getLsbD 0 = true
  · obtain ⟨d, rfl, hd⟩ := hflush
    simp [wrCmd_queue h, hd, poppedBy]
  · have hquiet : ∀ d, i = .wrCmd d → d.getLsbD 0 = false := fun d hi =>
      Bool.eq_false_iff.2 fun hd => hflush ⟨d, hi, hd⟩
    rw [popped_append_queue hf hquiet h]

/-- The bytes of a sequence of events are related as those of each event are: `R` is equality or `List.Sublist`. -/
theorem eventRun_queue {R : List Byte → List Byte → Prop} (hrefl : ∀ l, R l l)
    (htrans : ∀ {l m n}, R l m → R m n → R l n)
    (happend : ∀ {l m l' m'}, R l m → R l' m' → R (l ++ l') (m ++ m'))
    {is : List Instr} {s t : State} {popped stored : List Byte}
    (hevent : ∀ i ∈ is, ∀ s t : State, s.fifo.Inv → exec i s = .next t →
      R (poppedBy i s t ++ t.fifo.queue) (s.fifo.queue ++ storedBy i s))
    (hf : s.fifo.Inv) (h : eventRun s is = some (t, popped, stored)) :
    R (popped ++ t.fifo.queue) (s.fifo.queue ++ stored) := by
  induction is generalizing s popped stored with
  | nil =>
    cases h
    simpa using hrefl _
  | cons i is ih =>
    obtain ⟨u, popped', stored', hexec, hrun, rfl, rfl⟩ := eventRun_cons_eq_some.1 h
    have hfirst := hevent i List.mem_cons_self s u hf hexec
    have hrest := ih (fun j hj => hevent j (List.mem_cons_of_mem i hj)) ((exec_next hexec).fifo_inv hf) hrun
    have hpopped := happend (hrefl (poppedBy i s u)) hrest
    have hstored := happend hfirst (hrefl stored')
    simp only [List.append_assoc] at hpopped hstored ⊢
    exact htrans hpopped hstored

/-- Settles O26: the queue is empty at the start, so all that was stored is what was popped and what waits. -/
theorem bytesComeOutInPushOrder : Obligations.BytesComeOutInPushOrder := by
  intro is s t popped stored hf hc hquiet h
  have hall : popped ++ t.fifo.queue = s.fifo.queue ++ stored :=
    eventRun_queue (R := Eq) (fun _ => rfl) Eq.trans (congrArg₂ _)
      (fun i hi s t hfs => popped_append_queue hfs fun d hd => hquiet d (hd ▸ hi)) hf h
  rw [Fifo.queue_eq_nil hc, List.nil_append] at hall
  have hprefix : popped <+: stored := ⟨_, hall⟩
  exact ⟨hprefix, hprefix.eq_of_length, hall.symm⟩

theorem push_queue_of_full {b : Byte} {s t : State} (hcount : s.fifo.count.toNat = s.fifo.cap)
    (h : exec (.push b) s = .next t) : t.fifo.queue = s.fifo.queue := by
  obtain ⟨-, rfl⟩ | ⟨-, -, rfl⟩ | ⟨-, hfull, -, -⟩ := exec_push_next.1 h
  · rfl
  · rfl
  · exact absurd hcount (Fifo.full_eq_false.1 hfull)

/-- Settles O27. -/
theorem overflowDropsTheExcess : Obligations.OverflowDropsTheExcess := by
  refine ⟨fun b s t => push_queue_of_full, fun is s t popped stored hf h => ⟨?_, ?_⟩⟩
  · have hft : t.fifo.Inv :=
      eventRun_keeps (P := fun u => u.fifo.Inv) (fun _ _ _ _ hfu hexec => (exec_next hexec).fifo_inv hfu) hf h
    exact hft.count_le
  · have hall := eventRun_queue List.Sublist.refl List.Sublist.trans List.Sublist.append
      (fun _ _ _ _ => popped_append_queue_sublist) hf h
    exact (List.sublist_append_left _ _).trans hall

/-! ## A cycle that a bus event shares with a push (20_memory.md R60) -/

theorem andThen_eq_next {o : Outcome} {f : State → Outcome} {t : State} :
    andThen o f = .next t ↔ ∃ s, o = .next s ∧ f s = .next t := by
  cases o <;> simp

/-- A whole cycle answers a next state when each of its parts does. -/
theorem wholeCycle_next {w : Option EventWord} {s u : State} :
    wholeCycle w s = .next u ↔
      ∃ s1 s2, cycleBus w { s with phase := .push } = .next s1 ∧ cyclePush { s1 with phase := .tick } = .next s2 ∧
        cycleTick { s2 with phase := .cycle } = .next u := by
  simp only [wholeCycle, andThen_eq_next, ← exists_and_left]

theorem cycleBus_ok {w : EventWord} {i : Instr} (hd : decode w = .ok i) (s : State) :
    cycleBus (some w) s = exec i s := perform_ok hd s

theorem cyclePush_of_pending {s : State} (hpending : s.pushPort.reqSync.second ≠ s.pushPort.ack)
    (hrx : s.ctrl.rx_en = true) : cyclePush s = exec (.push s.push_data) s :=
  if_pos (Port.pending_and_iff.2 ⟨hpending, hrx⟩)

theorem cyclePush_bus_rdata {s t : State} (h : cyclePush s = .next t) : t.bus_rdata = s.bus_rdata := by
  unfold cyclePush at h
  split at h
  · obtain ⟨-, rfl⟩ | ⟨-, -, rfl⟩ | ⟨-, -, -, rfl⟩ := exec_push_next.1 h <;> rfl
  · cases h
    rfl

/-- The TICK part always answers, and leaves the FIFO, the control bits, the push port and the data read. -/
theorem cycleTick_frame (s : State) :
    ∃ u, cycleTick s = .next u ∧ u.fifo = s.fifo ∧ u.ctrl = s.ctrl ∧ u.pushPort = s.pushPort ∧
      u.bus_rdata = s.bus_rdata := by
  unfold cycleTick
  split
  next hsp =>
    have hen : s.ctrl.tick_en = true := (Bool.and_eq_true_iff.1 hsp).2
    exact ⟨_, exec_tick_next.2 (.inr ⟨hen, rfl⟩), rfl, rfl, rfl, rfl⟩
  next => exact ⟨s, rfl, rfl, rfl, rfl, rfl⟩

theorem cycleTick_fifo_rdata {s u : State} (h : cycleTick s = .next u) :
    u.fifo = s.fifo ∧ u.bus_rdata = s.bus_rdata := by
  obtain ⟨v, hv, hfifo, -, -, hrdata⟩ := cycleTick_frame s
  cases hv.symm.trans h
  exact ⟨hfifo, hrdata⟩

/-- The data that a bus event reads stay to the end of its cycle. -/
theorem wholeCycle_bus_rdata {w : EventWord} {i : Instr} {s t u : State} (hd : decode w = .ok i)
    (hexec : exec i { s with phase := .push } = .next t) (h : wholeCycle (some w) s = .next u) :
    u.bus_rdata = t.bus_rdata := by
  obtain ⟨s1, s2, hbus, hpush, htick⟩ := wholeCycle_next.1 h
  cases hexec.symm.trans ((cycleBus_ok hd _).symm.trans hbus)
  have hkept := cyclePush_bus_rdata hpush
  exact (cycleTick_fifo_rdata htick).2.trans hkept

/-! ## RXDATA (R103) -/

theorem decode_rxdataWord : decode 0x0100 = .ok .rdRxdata := decodeOfEncodeIsTheEvent .rdRxdata rfl

theorem exec_rdRxdata_of_empty {s : State} (hc : s.fifo.count = 0) : exec .rdRxdata s = .next (s.setRdata 0) :=
  exec_rdRxdata_next.2 (.inl ⟨hc, rfl⟩)

/-- A push that lands in the cycle of a pop of an empty FIFO stays in the FIFO. -/
theorem wholeCycle_rxdata_keeps_push {s u : State} (hc : s.fifo.count = 0)
    (h : wholeCycle (some 0x0100) s = .next u) (hcap : 1 ≤ s.fifo.cap) (hrx : s.ctrl.rx_en = true)
    (hpending : s.pushPort.reqSync.second ≠ s.pushPort.ack) : u.fifo = s.fifo.store s.push_data := by
  obtain ⟨s1, s2, hbus, hpush, htick⟩ := wholeCycle_next.1 h
  have hread := exec_rdRxdata_of_empty (s := { s with phase := .push }) hc
  cases hread.symm.trans ((cycleBus_ok decode_rxdataWord _).symm.trans hbus)
  have hexec := (cyclePush_of_pending (s := { s.setRdata 0 with phase := .tick }) hpending hrx).symm.trans hpush
  rw [(cycleTick_fifo_rdata htick).1]
  obtain ⟨hmasked, -⟩ | ⟨-, hfull, -⟩ | ⟨-, -, -, rfl⟩ := exec_push_next.1 hexec
  · cases hmasked.symm.trans hrx
  · have hcount : s.fifo.count.toNat = s.fifo.cap := of_decide_eq_true hfull
    have hzero : s.fifo.count.toNat = 0 := congrArg BitVec.toNat hc
    omega
  · rfl

/-- Settles O17: the two cases of `exec_rdRxdata_next`, and the cycle shared with a push. -/
theorem rxdataReadPopsTheOldestByte : Obligations.RxdataReadPopsTheOldestByte := by
  intro s
  refine ⟨readWord_eq 0x01, exec_rdRxdata_of_empty, fun hc hrd => ?_, fun v => Fifo.entry_of_read,
    fun u _ hc h => ⟨?_, fun hcap hrx hpending => ?_⟩⟩
  · exact exec_rdRxdata_next.2 (.inr ⟨hc, hrd, rfl⟩)
  · exact wholeCycle_bus_rdata decode_rxdataWord (exec_rdRxdata_of_empty hc) h
  · rw [wholeCycle_rxdata_keeps_push hc h hcap hrx hpending]
    exact ⟨by simp [hc], Memory.read_write_same _ _ _⟩

/-! ## STATUS and COUNT (R101, R105) -/

theorem Fifo.statusByte_eq (f : Fifo) : f.statusByte = if f.count = 0 then 0x00 else 0x01 := by
  by_cases hc : f.count = 0
  · rw [Fifo.statusByte, Fifo.avail, if_pos hc, hc]
    rfl
  · have havail : f.avail = true := bne_iff_ne.2 hc
    rw [Fifo.statusByte, havail, if_neg hc]
    rfl

theorem exec_rdStatus (s : State) :
    exec .rdStatus s = .next (s.setRdata (if s.fifo.count = 0 then 0x00 else 0x01)) :=
  congrArg (fun v => Host.Outcome.next (s.setRdata v)) s.fifo.statusByte_eq

theorem decode_statusWord : decode 0x0000 = .ok .rdStatus := decodeOfEncodeIsTheEvent .rdStatus rfl

/-- Settles O19. -/
theorem statusReadsAvail : Obligations.StatusReadsAvail := fun s =>
  ⟨readWord_eq 0x00, exec_rdStatus s, fun _ _ h => wholeCycle_bus_rdata decode_statusWord (exec_rdStatus _) h⟩

/-- Settles O20. -/
theorem countReadsTheUnreadBytes : Obligations.CountReadsTheUnreadBytes := fun s =>
  ⟨readWord_eq 0x02, rfl, s.fifo.queue_length.symm, Fifo.queue_eq_nil_iff.symm, fun hf => hf.count_le⟩

/-! ## The ignored writes (R102, R104, R106, R108, R159, R161, R163, R165, R167, R169, R171, R194) -/

/-- The word of a write to `a`, its data apart. -/
theorem writeWord_of_addr {a : Addr} {w : EventWord} (hw : 0x4000 ||| a.zeroExtend 16 <<< 8 = w) (d : Byte) :
    eventWord kindWrite a d = w ||| d.zeroExtend 16 := by
  rw [writeWord_eq, hw]

theorem ignored_write {i : Instr} {a : Addr} {d : Byte} {w : EventWord} {s : State}
    (hword : encode i = eventWord kindWrite a d) (hexec : exec i s = ignoreWrite s)
    (hw : 0x4000 ||| a.zeroExtend 16 <<< 8 = w) :
    encode i = w ||| d.zeroExtend 16 ∧ exec i s = .next s :=
  ⟨hword.trans (writeWord_of_addr hw d), hexec⟩

/-- Settles O22: each event has a write's word, and its meaning is to ignore the write. -/
theorem ignoredWritesChangeNothing : Obligations.IgnoredWritesChangeNothing := by
  intro d a s
  refine ⟨?_, ?_, ?_, ?_, ?_, ?_, ?_, ?_, ?_, ?_, ?_, ?_, ?_, ?_, ?_, ?_⟩
  all_goals exact ignored_write rfl rfl rfl

/-! ## FLUSH (R111) -/

/-- The state after a flush. -/
def State.flushed (s : State) : State := (s.setFifo s.fifo.flush).setCtrl { s.ctrl with rx_en := true }

theorem cmdWord_eq (d : Byte) : eventWord kindWrite 0x05 d = 0x4500 ||| d.zeroExtend 16 :=
  writeWord_of_addr (by decide) d

theorem decode_cmdWord (d : Byte) : decode (0x4500 ||| d.zeroExtend 16) = .ok (.wrCmd d) := by
  rw [← cmdWord_eq]
  exact decodeOfEncodeIsTheEvent (.wrCmd d) rfl

theorem exec_wrCmd_flush {d : Byte} (hd : d.getLsbD 0 = true) (s : State) : exec (.wrCmd d) s = .next s.flushed :=
  exec_wrCmd_next.2 (.inr ⟨hd, rfl⟩)

/-- A flushed FIFO is enabled and, since CAP is at least 1, not full: it stores the next byte at entry 0. -/
theorem exec_push_of_flushed {s : State} (hcap : 1 ≤ s.fifo.cap) (b : Byte) :
    exec (.push b) s.flushed = .next (s.flushed.setFifo (s.fifo.flush.store b)).ackPush :=
  exec_push_stores (s := s.flushed) rfl (Nat.ne_of_lt hcap) hcap b

/-- Settles O24. -/
theorem flushEmptiesAndEnables : Obligations.FlushEmptiesAndEnables := by
  intro d b s
  refine ⟨cmdWord_eq d, fun hd => exec_wrCmd_flush hd s, fun hd => exec_wrCmd_next.2 (.inl ⟨hd, rfl⟩),
    fun hd hcap t ht => ?_, fun hd hcap hpending => ?_⟩
  · cases (exec_wrCmd_flush hd s).symm.trans ht
    exact exec_push_of_flushed hcap b
  · have hflush := (cycleBus_ok (decode_cmdWord d) _).trans (exec_wrCmd_flush hd { s with phase := .push })
    have hpush := (cyclePush_of_pending (s := State.flushed { s with phase := .tick }) hpending rfl).trans
      (exec_push_of_flushed (s := { s with phase := .tick }) hcap s.push_data)
    obtain ⟨u, htick, hfifo, hctrl, hport, -⟩ := cycleTick_frame
      { (s.flushed.setFifo (s.fifo.flush.store s.push_data)).ackPush with phase := .cycle }
    exact ⟨u, wholeCycle_next.2 ⟨_, _, hflush, hpush, htick⟩, hfifo, hctrl, hport⟩

end Sys2Proof.Machine
end

/-! # The tick source (41_tick.md) -/

section
namespace Sys2Proof.Machine

/-! ## One count of a divider (R140, R143, R144) -/

theorem reaches_eq_false_iff (d r : Byte) : reaches d r = false ↔ d.toNat + 1 < r.toNat := by
  rw [Bool.eq_false_iff, ne_eq, reaches_iff, Nat.not_le]

theorem reaches_of_ratio_le_one {r : Byte} (h : r.toNat ≤ 1) (d : Byte) : reaches d r = true :=
  (reaches_iff d r).2 (by omega)

theorem nextDiv_of_reaches {d r : Byte} (h : reaches d r = true) : nextDiv d r = 0 := if_pos h

theorem nextDiv_of_not_reaches {d r : Byte} (h : reaches d r = false) : nextDiv d r = d + 1 := by
  simp [nextDiv, h]

theorem nextDiv_lt_ratio {d r : Byte} (h : nextDiv d r ≠ 0) : (nextDiv d r).toNat < r.toNat := by
  cases hr : reaches d r with
  | true => exact absurd (nextDiv_of_reaches hr) h
  | false =>
    have hlt := (reaches_eq_false_iff d r).1 hr
    rw [nextDiv_toNat, if_neg (Nat.not_le.2 hlt)]
    exact hlt

/-- A divider that stays or counts keeps R143's bound, and a new value other than 0 is below its ratio. -/
theorem div_bounded {d d' r : Byte} (h : d' = d ∨ d' = nextDiv d r) :
    (d.toNat ≤ 254 → d'.toNat ≤ 254) ∧ (d' ≠ d → d' ≠ 0 → d'.toNat < r.toNat) := by
  obtain rfl | rfl := h
  · exact ⟨id, absurd rfl⟩
  · exact ⟨fun _ => nextDiv_le d r, fun _ => nextDiv_lt_ratio⟩

/-- What a count does to a divider `d` and to its flag `due`. -/
theorem level_count (d r : Byte) (due : Bool) :
    (r.toNat ≤ d.toNat + 1 → nextDiv d r = 0 ∧ (due || reaches d r) = true) ∧
      (d.toNat + 1 < r.toNat → nextDiv d r = d + 1 ∧ (due || reaches d r) = due) := by
  constructor <;> intro h
  · have hr := (reaches_iff d r).2 h
    exact ⟨nextDiv_of_reaches hr, by rw [hr, Bool.or_true]⟩
  · have hr := (reaches_eq_false_iff d r).2 h
    exact ⟨nextDiv_of_not_reaches hr, by rw [hr, Bool.or_false]⟩

/-! ## One firing of the chain (R140) -/

namespace TickSource

variable {t : TickSource}

theorem fastRolls_of_medRolls (h : t.medRolls = true) : t.fastRolls = true := (Bool.and_eq_true_iff.1 h).1

theorem medRolls_of_slowRolls (h : t.slowRolls = true) : t.medRolls = true := (Bool.and_eq_true_iff.1 h).1

theorem medRolls_of_fastRolls (h : t.fastRolls = true) : t.medRolls = reaches t.div_m t.ratio_m := by
  rw [medRolls, h, Bool.true_and]

theorem slowRolls_of_medRolls (h : t.medRolls = true) : t.slowRolls = reaches t.div_s t.ratio_s := by
  rw [slowRolls, h, Bool.true_and]

theorem fire_div_m_of_fastRolls (h : t.fastRolls = true) : t.fire.div_m = nextDiv t.div_m t.ratio_m := if_pos h

theorem fire_div_s_of_medRolls (h : t.medRolls = true) : t.fire.div_s = nextDiv t.div_s t.ratio_s := if_pos h

/-- A firing as R140's nested cases. -/
theorem fire_eq (t : TickSource) :
    t.fire =
      if t.ratio_f.toNat ≤ t.div_f.toNat + 1 then
        if t.ratio_m.toNat ≤ t.div_m.toNat + 1 then
          if t.ratio_s.toNat ≤ t.div_s.toNat + 1 then
            { t with
              tick_cnt := t.tick_cnt + 1, div_f := 0, f_due := true, div_m := 0, m_due := true, div_s := 0
              s_due := true }
          else
            { t with
              tick_cnt := t.tick_cnt + 1, div_f := 0, f_due := true, div_m := 0, m_due := true
              div_s := t.div_s + 1 }
        else { t with tick_cnt := t.tick_cnt + 1, div_f := 0, f_due := true, div_m := t.div_m + 1 }
      else { t with tick_cnt := t.tick_cnt + 1, div_f := t.div_f + 1 } := by
  simp only [← reaches_iff, fire, slowRolls, medRolls, fastRolls, nextDiv]
  by_cases hf : reaches t.div_f t.ratio_f = true
  · by_cases hm : reaches t.div_m t.ratio_m = true
    · by_cases hs : reaches t.div_s t.ratio_s = true <;> simp [hf, hm, hs]
    · simp [hf, hm]
  · simp [hf]

/-! A level whose level below rolls over counts on or rolls over itself, as its ratio says (R145). -/

theorem fire_fast_count (t : TickSource) :
    (t.ratio_f.toNat ≤ t.div_f.toNat + 1 → t.fire.div_f = 0 ∧ t.fire.f_due = true) ∧
      (t.div_f.toNat + 1 < t.ratio_f.toNat → t.fire.div_f = t.div_f + 1 ∧ t.fire.f_due = t.f_due) :=
  level_count t.div_f t.ratio_f t.f_due

theorem fire_med_count (hf : t.fastRolls = true) :
    (t.ratio_m.toNat ≤ t.div_m.toNat + 1 → t.fire.div_m = 0 ∧ t.fire.m_due = true) ∧
      (t.div_m.toNat + 1 < t.ratio_m.toNat → t.fire.div_m = t.div_m + 1 ∧ t.fire.m_due = t.m_due) := by
  rw [fire_div_m_of_fastRolls hf, fire_m_due, medRolls_of_fastRolls hf]
  exact level_count t.div_m t.ratio_m t.m_due

theorem fire_slow_count (hm : t.medRolls = true) :
    (t.ratio_s.toNat ≤ t.div_s.toNat + 1 → t.fire.div_s = 0 ∧ t.fire.s_due = true) ∧
      (t.div_s.toNat + 1 < t.ratio_s.toNat → t.fire.div_s = t.div_s + 1 ∧ t.fire.s_due = t.s_due) := by
  rw [fire_div_s_of_medRolls hm, fire_s_due, slowRolls_of_medRolls hm]
  exact level_count t.div_s t.ratio_s t.s_due

/-! A rollover leaves its flag set, whatever the flag was (R146). -/

theorem fire_setFastDue (h : t.fastRolls = true) (b : Bool) : { t with f_due := b }.fire = t.fire := by
  change { t.fire with f_due := b || t.fastRolls } = { t.fire with f_due := t.f_due || t.fastRolls }
  rw [h, Bool.or_true, Bool.or_true]

theorem fire_setMedDue (h : t.medRolls = true) (b : Bool) : { t with m_due := b }.fire = t.fire := by
  change { t.fire with m_due := b || t.medRolls } = { t.fire with m_due := t.m_due || t.medRolls }
  rw [h, Bool.or_true, Bool.or_true]

theorem fire_setSlowDue (h : t.slowRolls = true) (b : Bool) : { t with s_due := b }.fire = t.fire := by
  change { t.fire with s_due := b || t.slowRolls } = { t.fire with s_due := t.s_due || t.slowRolls }
  rw [h, Bool.or_true, Bool.or_true]

end TickSource

/-! ## TICK (R140) -/

theorem exec_tick_masked {s : State} (hen : s.ctrl.tick_en = false) : exec .tick s = .next s :=
  exec_tick_next.2 (.inl ⟨hen, rfl⟩)

theorem exec_tick_fires {s : State} (hen : s.ctrl.tick_en = true) :
    exec .tick s = .next (s.setTick s.tick.fire).ackTick :=
  exec_tick_next.2 (.inr ⟨hen, rfl⟩)

theorem tick_of_exec_tick {s t : State} (h : exec .tick s = .next t) (hen : s.ctrl.tick_en = true) :
    t.tick = s.tick.fire := by
  cases (exec_tick_fires hen).symm.trans h
  rfl

theorem setByTick_masked {s : State} (hen : s.ctrl.tick_en = false) : setByTick s = (false, false, false) := by
  rw [setByTick, exec_tick_masked (s := s.flagsCleared) hen]
  rfl

/-- An accepted TICK sets the flags of the levels that roll over. -/
theorem setByTick_fires {s : State} (hen : s.ctrl.tick_en = true) :
    setByTick s = (s.tick.fastRolls, s.tick.medRolls, s.tick.slowRolls) := by
  rw [setByTick, exec_tick_fires (s := s.flagsCleared) hen]
  rfl

/-- Settles O30. -/
theorem tickRunsTheChain : Obligations.TickRunsTheChain := by
  intro s
  refine ⟨by decide, exec_tick_masked, fun hen => ?_⟩
  rw [exec_tick_fires hen, TickSource.fire_eq]
  rfl

/-! ## What the other events leave of the chain (R143, R147) -/

/-- An event is an accepted TICK, or leaves the counter and the dividers. -/
theorem exec_chain_cases {i : Instr} {s t : State} (h : exec i s = .next t) :
    (i = .tick ∧ s.ctrl.tick_en = true ∧ t.tick = s.tick.fire) ∨
      (¬(i = .tick ∧ s.ctrl.tick_en = true) ∧ t.tick.tick_cnt = s.tick.tick_cnt ∧ t.tick.div_f = s.tick.div_f ∧
        t.tick.div_m = s.tick.div_m ∧ t.tick.div_s = s.tick.div_s) := by
  by_cases hi : i = .tick
  · subst hi
    obtain ⟨hen, rfl⟩ | ⟨hen, rfl⟩ := exec_tick_next.1 h
    · exact .inr ⟨by simp [hen], rfl, rfl, rfl, rfl⟩
    · exact .inl ⟨rfl, hen, rfl⟩
  · refine .inr ⟨fun hacc => hi hacc.1, ?_⟩
    cases exec_next h with
    | fire hen => exact absurd rfl hi
    | _ => exact ⟨rfl, rfl, rfl, rfl⟩

/-- A divider changes by its own count only. -/
theorem exec_div_cases {i : Instr} {s t : State} (h : exec i s = .next t) :
    (t.tick.div_f = s.tick.div_f ∨ t.tick.div_f = nextDiv s.tick.div_f s.tick.ratio_f) ∧
      (t.tick.div_m = s.tick.div_m ∨ t.tick.div_m = nextDiv s.tick.div_m s.tick.ratio_m) ∧
      (t.tick.div_s = s.tick.div_s ∨ t.tick.div_s = nextDiv s.tick.div_s s.tick.ratio_s) := by
  obtain ⟨-, -, hfire⟩ | ⟨-, -, hf, hm, hs⟩ := exec_chain_cases h
  · rw [hfire]
    exact ⟨.inr rfl, (ite_eq_or_eq _ _ _).symm, (ite_eq_or_eq _ _ _).symm⟩
  · exact ⟨.inl hf, .inl hm, .inl hs⟩

/-- Settles O33. -/
theorem dividersAreLockedAndBounded : Obligations.DividersAreLockedAndBounded := by
  refine ⟨fun s => ?_, fun i s t h => ?_⟩
  · cases hen : s.ctrl.tick_en with
    | false =>
      rw [setByTick_masked hen]
      exact ⟨id, id⟩
    | true =>
      rw [setByTick_fires hen]
      exact ⟨TickSource.medRolls_of_slowRolls, TickSource.fastRolls_of_medRolls⟩
  · obtain ⟨hf, hm, hs⟩ := exec_div_cases h
    obtain ⟨hfle, hflt⟩ := div_bounded hf
    obtain ⟨hmle, hmlt⟩ := div_bounded hm
    obtain ⟨hsle, hslt⟩ := div_bounded hs
    exact ⟨hfle, hmle, hsle, hflt, hmlt, hslt⟩

/-! ## Ratios 0 and 1, and a ratio that changes (R144, R145) -/

/-- Settles O34. -/
theorem ratiosZeroAndOneAlwaysRollOver : Obligations.RatiosZeroAndOneAlwaysRollOver := by
  intro s t hen h
  rw [setByTick_fires hen, tick_of_exec_tick h hen]
  have hfast (hr : s.tick.ratio_f.toNat ≤ 1) : s.tick.fastRolls = true := reaches_of_ratio_le_one hr _
  have hmed (hr : s.tick.ratio_m.toNat ≤ 1) (hf : s.tick.fastRolls = true) : s.tick.medRolls = true :=
    (TickSource.medRolls_of_fastRolls hf).trans (reaches_of_ratio_le_one hr _)
  have hslow (hr : s.tick.ratio_s.toNat ≤ 1) (hm : s.tick.medRolls = true) : s.tick.slowRolls = true :=
    (TickSource.slowRolls_of_medRolls hm).trans (reaches_of_ratio_le_one hr _)
  refine ⟨fun hr => ⟨hfast hr, ?_⟩, fun hr hf => ⟨hmed hr hf, ?_⟩, fun hr hm => ⟨hslow hr hm, ?_⟩,
    fun hrf hrm hrs => ?_⟩
  · exact nextDiv_of_reaches (hfast hr)
  · exact (TickSource.fire_div_m_of_fastRolls hf).trans (nextDiv_of_reaches (reaches_of_ratio_le_one hr _))
  · exact (TickSource.fire_div_s_of_medRolls hm).trans (nextDiv_of_reaches (reaches_of_ratio_le_one hr _))
  · have hf := hfast hrf
    have hm := hmed hrm hf
    simp [hf, hm, hslow hrs hm]

/-- Settles O35: the TICK after the write is a firing of the old tick source with the new ratio. -/
theorem ratioWritesTakeEffectAtTheNextTick : Obligations.RatioWritesTakeEffectAtTheNextTick := by
  intro d s t u hen
  refine ⟨fun ht hu => ?_, fun ht hu hf => ?_, fun ht hu hf hm => ?_⟩
  all_goals
    cases ht
    rw [tick_of_exec_tick hu hen]
    refine ⟨rfl, ?_⟩
  · exact TickSource.fire_fast_count { s.tick with ratio_f := d }
  · have hfast : s.tick.fastRolls = true := (reaches_iff _ _).2 hf
    exact TickSource.fire_med_count (t := { s.tick with ratio_m := d }) hfast
  · have hfast : s.tick.fastRolls = true := (reaches_iff _ _).2 hf
    have hmed : s.tick.medRolls = true := (TickSource.medRolls_of_fastRolls hfast).trans ((reaches_iff _ _).2 hm)
    exact TickSource.fire_slow_count (t := { s.tick with ratio_s := d }) hmed

/-! ## Lost periods (R146) -/

theorem exec_tick_of_fire_eq {s t : State} {c : TickSource} (hen : s.ctrl.tick_en = true)
    (h : exec .tick s = .next t) (hc : c.fire = s.tick.fire) : exec .tick { s with tick := c } = .next t := by
  cases (exec_tick_fires hen).symm.trans h
  rw [exec_tick_fires (s := { s with tick := c }) hen]
  exact congrArg (fun f => Host.Outcome.next (s.setTick f).ackTick) hc

/-- Settles O36. -/
theorem lostPeriodsLeaveNoTrace : Obligations.LostPeriodsLeaveNoTrace := by
  intro s t hen h
  have hsame {c : TickSource} := exec_tick_of_fire_eq (c := c) hen h
  rw [setByTick_fires hen, tick_of_exec_tick h hen]
  refine ⟨fun hf => ?_, fun hm => ?_, fun hs => ?_, fun hf => ?_, fun hm => ?_, fun hs => ?_⟩
  · exact Bool.or_eq_true_iff.2 (.inl hf)
  · exact Bool.or_eq_true_iff.2 (.inl hm)
  · exact Bool.or_eq_true_iff.2 (.inl hs)
  · exact hsame (TickSource.fire_setFastDue hf _)
  · exact hsame (TickSource.fire_setMedDue hm _)
  · exact hsame (TickSource.fire_setSlowDue hs _)

end Sys2Proof.Machine
end

/-! # The tick source over a sequence of events (41_tick.md R141, R142, R147) -/

section
namespace Sys2Proof.Machine

/-! ## The accepted TICKs of a sequence -/

/-- An event's share of `acceptedTicks`. -/
def acceptedBy (i : Instr) (s : State) : Nat := if i = .tick ∧ s.ctrl.tick_en = true then 1 else 0

theorem acceptedBy_of_accepted {i : Instr} {s : State} (h : i = .tick ∧ s.ctrl.tick_en = true) : acceptedBy i s = 1 :=
  if_pos h

theorem acceptedBy_of_not_accepted {i : Instr} {s : State} (h : ¬(i = .tick ∧ s.ctrl.tick_en = true)) :
    acceptedBy i s = 0 := if_neg h

theorem acceptedTicks_cons {i : Instr} {s u : State} (h : exec i s = .next u) (is : List Instr) :
    acceptedTicks s (i :: is) = acceptedBy i s + acceptedTicks u is := by
  rw [acceptedTicks, h]
  rfl

/-- What holds of a state and a number of TICKs, and goes on with every event, holds at the end of a sequence with the
TICKs accepted on the way. -/
theorem eventRun_counts {P : Nat → State → Prop} {is : List Instr} {s t : State} {popped stored : List Byte} {k : Nat}
    (hevent : ∀ i ∈ is, ∀ k s t, P k s → exec i s = .next t → P (k + acceptedBy i s) t) (hs : P k s)
    (h : eventRun s is = some (t, popped, stored)) : P (k + acceptedTicks s is) t := by
  induction is generalizing s k popped stored with
  | nil => cases h; exact hs
  | cons i is ih =>
    obtain ⟨u, _, _, hexec, hrun, -, -⟩ := eventRun_cons_eq_some.1 h
    have hu := hevent i List.mem_cons_self k s u hs hexec
    rw [acceptedTicks_cons hexec, ← Nat.add_assoc]
    exact ih (fun j hj => hevent j (List.mem_cons_of_mem i hj)) hu hrun

/-! ## The counter (R147) -/

theorem exec_tick_cnt {i : Instr} {s t : State} (h : exec i s = .next t) :
    t.tick.tick_cnt = s.tick.tick_cnt + BitVec.ofNat 32 (acceptedBy i s) := by
  obtain ⟨hi, hen, hfire⟩ | ⟨hacc, hcnt, -⟩ := exec_chain_cases h
  · rw [hfire, acceptedBy_of_accepted ⟨hi, hen⟩]
    rfl
  · rw [hcnt, acceptedBy_of_not_accepted hacc]
    exact (BitVec.add_zero _).symm

/-- Settles O37: the counter of every state of the sequence is the first one plus the TICKs accepted so far. -/
theorem counterDifferenceCountsTicks : Obligations.CounterDifferenceCountsTicks := by
  intro is s t popped stored h hlt
  have hcnt : t.tick.tick_cnt = s.tick.tick_cnt + BitVec.ofNat 32 (0 + acceptedTicks s is) := by
    refine eventRun_counts (P := fun k u => u.tick.tick_cnt = s.tick.tick_cnt + BitVec.ofNat 32 k)
      (fun i _ k u v hu hexec => ?_) (BitVec.add_zero _).symm h
    rw [exec_tick_cnt hexec, hu, BitVec.add_assoc, BitVec.ofNat_add]
  rw [hcnt, Nat.zero_add, add_sub_cancel_left, BitVec.toNat_ofNat, Nat.mod_eq_of_lt hlt]

/-! ## Ratios that stay (R141) -/

/-- Only a ratio write changes a ratio. -/
theorem exec_ratios {i : Instr} {s t : State}
    (hi : ∀ d, i ≠ .wrFastRatio d ∧ i ≠ .wrMedRatio d ∧ i ≠ .wrSlowRatio d) (h : exec i s = .next t) :
    t.tick.ratio_f = s.tick.ratio_f ∧ t.tick.ratio_m = s.tick.ratio_m ∧ t.tick.ratio_s = s.tick.ratio_s := by
  cases exec_next h with
  | setFastRatio d =>
    obtain ⟨hfast, -, -⟩ := hi d
    exact absurd rfl hfast
  | setMedRatio d =>
    obtain ⟨-, hmed, -⟩ := hi d
    exact absurd rfl hmed
  | setSlowRatio d =>
    obtain ⟨-, -, hslow⟩ := hi d
    exact absurd rfl hslow
  | _ => exact ⟨rfl, rfl, rfl⟩

theorem eventRun_ratios {is : List Instr} {s t : State} {popped stored : List Byte} (hkeep : keepsRatios is)
    (h : eventRun s is = some (t, popped, stored)) :
    t.tick.ratio_f = s.tick.ratio_f ∧ t.tick.ratio_m = s.tick.ratio_m ∧ t.tick.ratio_s = s.tick.ratio_s := by
  refine eventRun_keeps (P := fun u => u.tick.ratio_f = s.tick.ratio_f ∧ u.tick.ratio_m = s.tick.ratio_m ∧
    u.tick.ratio_s = s.tick.ratio_s) (fun i hi u v ⟨hf, hm, hs⟩ hexec => ?_) ⟨rfl, rfl, rfl⟩ h
  obtain ⟨hf', hm', hs'⟩ := exec_ratios (hkeep i hi) hexec
  exact ⟨hf'.trans hf, hm'.trans hm, hs'.trans hs⟩

/-! ## One level as a digit of the number of TICKs

A level counts the rollovers of the level below, which come at the multiples of that level's period `p`. After `k` TICKs
it has counted `k / p` of them, and its divider is that number modulo its own ratio. -/

theorem succ_mod {p : Nat} (hp : 0 < p) (n : Nat) : (n + 1) % p = if p ≤ n % p + 1 then 0 else n % p + 1 := by
  have hlt := Nat.mod_lt n hp
  rw [← Nat.mod_add_mod]
  split
  next hle => rw [show n % p + 1 = p by omega, Nat.mod_self]
  next hle => exact Nat.mod_eq_of_lt (by omega)

/-- The number of rollovers by then grows by one in a TICK that rolls over. -/
theorem succ_div_of_rolls {b : Bool} {p k : Nat} (hb : b = true ↔ p ∣ k + 1) : (k + 1) / p = k / p + b.toNat := by
  rw [Nat.succ_div]
  cases b <;> simp [← hb]

section

variable {d r : Byte} {n : Nat}

theorem nextDiv_eq_mod (h : d.toNat = n % max r.toNat 1) : (nextDiv d r).toNat = (n + 1) % max r.toNat 1 := by
  rw [nextDiv_toNat, succ_mod (by omega), ← h]
  simp only [max_le_iff, Nat.le_add_left, and_true]

theorem reaches_iff_dvd (h : d.toNat = n % max r.toNat 1) : reaches d r = true ↔ max r.toNat 1 ∣ n + 1 := by
  rw [reaches_iff, Nat.dvd_iff_mod_eq_zero, succ_mod (by omega), ← h]
  simp

variable {below : Bool} {p k : Nat}

/-- The period of a level is the product of its ratio and the period of the level below. -/
theorem level_rolls_iff (hb : below = true ↔ p ∣ k + 1) (h : d.toNat = k / p % max r.toNat 1) :
    (below && reaches d r) = true ↔ p * max r.toNat 1 ∣ k + 1 := by
  rw [Bool.and_eq_true_iff, reaches_iff_dvd h]
  constructor
  · rintro ⟨hbelow, hdvd⟩
    rwa [← Nat.dvd_div_iff_mul_dvd (hb.1 hbelow), succ_div_of_rolls hb, hbelow]
  · intro hdvd
    have hbelow : below = true := hb.2 (dvd_of_mul_right_dvd hdvd)
    rw [← Nat.dvd_div_iff_mul_dvd (hb.1 hbelow), succ_div_of_rolls hb, hbelow] at hdvd
    exact ⟨hbelow, hdvd⟩

theorem level_div_eq (hb : below = true ↔ p ∣ k + 1) (h : d.toNat = k / p % max r.toNat 1) :
    (if below then nextDiv d r else d).toNat = (k + 1) / p % max r.toNat 1 := by
  rw [succ_div_of_rolls hb]
  cases below with
  | false => exact h
  | true => exact nextDiv_eq_mod h

end

/-! ## The chain after `k` TICKs (R141) -/

namespace TickSource

/-- After how many TICKs each level rolls over, a ratio 0 counting as 1. -/
def fastPeriod (t : TickSource) : Nat := max t.ratio_f.toNat 1
def medPeriod (t : TickSource) : Nat := t.fastPeriod * max t.ratio_m.toNat 1
def slowPeriod (t : TickSource) : Nat := t.medPeriod * max t.ratio_s.toNat 1

/-- The dividers are where `k` TICKs bring them from 0. -/
structure At (t : TickSource) (k : Nat) : Prop where
  fast : t.div_f.toNat = k % max t.ratio_f.toNat 1
  med : t.div_m.toNat = k / t.fastPeriod % max t.ratio_m.toNat 1
  slow : t.div_s.toNat = k / t.medPeriod % max t.ratio_s.toNat 1

variable {t : TickSource} {k : Nat}

theorem at_zero (hf : t.div_f = 0) (hm : t.div_m = 0) (hs : t.div_s = 0) : t.At 0 where
  fast := by simp [hf]
  med := by simp [hm]
  slow := by simp [hs]

theorem At.fastRolls_iff (h : t.At k) : t.fastRolls = true ↔ t.fastPeriod ∣ k + 1 := reaches_iff_dvd h.fast

theorem At.medRolls_iff (h : t.At k) : t.medRolls = true ↔ t.medPeriod ∣ k + 1 := level_rolls_iff h.fastRolls_iff h.med

theorem At.slowRolls_iff (h : t.At k) : t.slowRolls = true ↔ t.slowPeriod ∣ k + 1 :=
  level_rolls_iff h.medRolls_iff h.slow

theorem At.fire (h : t.At k) : t.fire.At (k + 1) where
  fast := nextDiv_eq_mod h.fast
  med := level_div_eq h.fastRolls_iff h.med
  slow := level_div_eq h.medRolls_iff h.slow

theorem At.of_same {u : TickSource} (h : t.At k) (hf : u.div_f = t.div_f) (hm : u.div_m = t.div_m)
    (hs : u.div_s = t.div_s)
    (hr : u.ratio_f = t.ratio_f ∧ u.ratio_m = t.ratio_m ∧ u.ratio_s = t.ratio_s) : u.At k := by
  obtain ⟨hrf, hrm, hrs⟩ := hr
  constructor
  · rw [hf, hrf, h.fast]
  · rw [hm, hrm, fastPeriod, hrf, h.med]; rfl
  · rw [hs, hrs, medPeriod, fastPeriod, hrf, hrm, h.slow]; rfl

end TickSource

/-- Without a ratio write the chain moves on by the accepted TICKs. -/
theorem exec_at {i : Instr} {s t : State} {k : Nat}
    (hi : ∀ d, i ≠ .wrFastRatio d ∧ i ≠ .wrMedRatio d ∧ i ≠ .wrSlowRatio d) (hs : s.tick.At k)
    (h : exec i s = .next t) : t.tick.At (k + acceptedBy i s) := by
  obtain ⟨htick, hen, hfire⟩ | ⟨hacc, -, hdf, hdm, hds⟩ := exec_chain_cases h
  · rw [hfire, acceptedBy_of_accepted ⟨htick, hen⟩]
    exact hs.fire
  · rw [acceptedBy_of_not_accepted hacc]
    exact hs.of_same hdf hdm hds (exec_ratios hi h)

theorem eventRun_at {is : List Instr} {s t : State} {popped stored : List Byte} {k : Nat} (hkeep : keepsRatios is)
    (hs : s.tick.At k) (h : eventRun s is = some (t, popped, stored)) : t.tick.At (k + acceptedTicks s is) :=
  eventRun_counts (P := fun k u => u.tick.At k) (fun i hi _ _ _ hu hexec => exec_at (hkeep i hi) hu hexec) hs h

theorem eq_decide_mod {b : Bool} {p n : Nat} (h : b = true ↔ p ∣ n) : b = decide (n % p = 0) := by
  rw [Bool.eq_iff_iff, h, decide_eq_true_iff, Nat.dvd_iff_mod_eq_zero]

/-- Settles O31. -/
theorem rolloversAreAtTheMultiples : Obligations.RolloversAreAtTheMultiples := by
  refine ⟨fun is s t popped stored hf hm hs hkeep h hen => ?_, rfl, rfl, rfl, rfl, rfl, rfl⟩
  have hat := eventRun_at hkeep (TickSource.at_zero hf hm hs) h
  rw [Nat.zero_add] at hat
  obtain ⟨hrf, hrm, hrs⟩ := eventRun_ratios hkeep h
  rw [setByTick_fires hen, ← hrf, ← hrm, ← hrs]
  exact ⟨eq_decide_mod hat.fastRolls_iff, eq_decide_mod hat.medRolls_iff, eq_decide_mod hat.slowRolls_iff⟩

/-! ## The number of rollovers (R142) -/

/-- How often each level (fast, medium, slow) rolls over in the first `k` TICKs from dividers at 0. -/
def TickSource.rollovers (t : TickSource) (k : Nat) : Nat × Nat × Nat :=
  (k / t.fastPeriod, k / t.medPeriod, k / t.slowPeriod)

/-- 1 for each flag (fast, medium, slow) that is set. -/
def flagCounts (f : Bool × Bool × Bool) : Nat × Nat × Nat := (f.1.toNat, f.2.1.toNat, f.2.2.toNat)

/-- An event's share of `timesSet`. -/
def setsBy (i : Instr) (s : State) : Nat × Nat × Nat :=
  flagCounts (if i = .tick then setByTick s else (false, false, false))

theorem timesSet_cons {i : Instr} {s u : State} (h : exec i s = .next u) (is : List Instr) :
    timesSet s (i :: is) = setsBy i s + timesSet u is := by
  rw [timesSet, h]
  rfl

theorem setsBy_of_accepted {s : State} (hen : s.ctrl.tick_en = true) :
    setsBy .tick s = flagCounts (s.tick.fastRolls, s.tick.medRolls, s.tick.slowRolls) := by
  rw [setsBy, if_pos rfl, setByTick_fires hen]

theorem setsBy_of_not_accepted {i : Instr} {s : State} (h : ¬(i = .tick ∧ s.ctrl.tick_en = true)) :
    setsBy i s = 0 := by
  rw [setsBy]
  split
  next hi =>
    rw [setByTick_masked (Bool.eq_false_iff.2 fun hen => h ⟨hi, hen⟩)]
    rfl
  next => rfl

/-- An event adds the flags it sets to the rollovers of the TICKs before it. -/
theorem rollovers_add_acceptedBy {s : State} {k : Nat} (hs : s.tick.At k) (i : Instr) :
    s.tick.rollovers (k + acceptedBy i s) = s.tick.rollovers k + setsBy i s := by
  by_cases hacc : i = .tick ∧ s.ctrl.tick_en = true
  · rw [acceptedBy_of_accepted hacc]
    obtain ⟨rfl, hen⟩ := hacc
    rw [setsBy_of_accepted hen, TickSource.rollovers, succ_div_of_rolls hs.fastRolls_iff,
      succ_div_of_rolls hs.medRolls_iff, succ_div_of_rolls hs.slowRolls_iff]
    rfl
  · rw [acceptedBy_of_not_accepted hacc, setsBy_of_not_accepted hacc]
    rfl

theorem rollovers_congr {t u : TickSource}
    (hr : u.ratio_f = t.ratio_f ∧ u.ratio_m = t.ratio_m ∧ u.ratio_s = t.ratio_s) : u.rollovers = t.rollovers := by
  obtain ⟨hrf, hrm, hrs⟩ := hr
  funext k
  simp only [TickSource.rollovers, TickSource.slowPeriod, TickSource.medPeriod, TickSource.fastPeriod, hrf, hrm, hrs]

/-- From `k` TICKs on, a sequence sets the flags as often as the levels roll over in its accepted TICKs. -/
theorem rollovers_add_acceptedTicks {is : List Instr} {s t : State} {popped stored : List Byte} {k : Nat}
    (hkeep : keepsRatios is) (hs : s.tick.At k) (h : eventRun s is = some (t, popped, stored)) :
    s.tick.rollovers (k + acceptedTicks s is) = s.tick.rollovers k + timesSet s is := by
  induction is generalizing s k popped stored with
  | nil => rfl
  | cons i is ih =>
    obtain ⟨u, _, _, hexec, hrun, -, -⟩ := eventRun_cons_eq_some.1 h
    have hi := hkeep i List.mem_cons_self
    have hrest := ih (fun j hj => hkeep j (List.mem_cons_of_mem i hj)) (exec_at hi hs hexec) hrun
    rw [rollovers_congr (exec_ratios hi hexec)] at hrest
    rw [acceptedTicks_cons hexec, timesSet_cons hexec, ← Nat.add_assoc, hrest, rollovers_add_acceptedBy hs, add_assoc]

/-- Settles O32: no level has rolled over in 0 TICKs. -/
theorem rolloversAreCountedByDivision : Obligations.RolloversAreCountedByDivision := by
  intro is s t popped stored hf hm hs hkeep h
  have hzero : s.tick.rollovers 0 = 0 := by simp [TickSource.rollovers]
  have hsets := rollovers_add_acceptedTicks hkeep (TickSource.at_zero hf hm hs) h
  rw [hzero, zero_add, zero_add] at hsets
  exact hsets.symm

end Sys2Proof.Machine
end

/-! # The registers of the tick source (41_tick.md R150..R173) -/

section
namespace Sys2Proof.Machine

/-! ## The ratios and the dividers (R152..R157, R158, R160, R162) -/

/-- Settles O40. -/
theorem ratioRegistersReadAndWrite : Obligations.RatioRegistersReadAndWrite := fun d _ =>
  ⟨⟨readWord_eq 0x08, rfl⟩, ⟨readWord_eq 0x09, rfl⟩, ⟨readWord_eq 0x0A, rfl⟩,
    ⟨writeWord_of_addr (a := 0x08) rfl d, rfl⟩, ⟨writeWord_of_addr (a := 0x09) rfl d, rfl⟩,
    ⟨writeWord_of_addr (a := 0x0A) rfl d, rfl⟩⟩

/-- Settles O41. -/
theorem dividerRegistersRead : Obligations.DividerRegistersRead := fun _ =>
  ⟨⟨readWord_eq 0x0C, rfl⟩, ⟨readWord_eq 0x0D, rfl⟩, ⟨readWord_eq 0x0E, rfl⟩⟩

/-! ## The read of FLAGS (R150) -/

theorem lowBits_eq (b2 b1 b0 : Bool) :
    lowBits b2 b1 b0 = BitVec.ofNat 8 (4 * b2.toNat + 2 * b1.toNat + b0.toNat) := by
  cases b2 <;> cases b1 <;> cases b0 <;> rfl

theorem exec_rdFlags (s : State) :
    exec .rdFlags s = .next
      (s.setRdata (BitVec.ofNat 8 (4 * s.tick.s_due.toNat + 2 * s.tick.m_due.toNat + s.tick.f_due.toNat))) :=
  congrArg (fun v => Host.Outcome.next (s.setRdata v)) (lowBits_eq _ _ _)

theorem decode_flagsWord : decode 0x0600 = .ok .rdFlags := decodeOfEncodeIsTheEvent .rdFlags rfl

/-- Settles O38. -/
theorem flagsReadTheDueBits : Obligations.FlagsReadTheDueBits := fun s =>
  ⟨readWord_eq 0x06, exec_rdFlags s, fun _ _ h => wholeCycle_bus_rdata decode_flagsWord (exec_rdFlags _) h⟩

/-! ## The write of FLAGS (R151) -/

theorem TickSource.clearFlags_eq (t : TickSource) (d : Byte) :
    t.clearFlags d =
      { t with
        f_due := t.f_due && !d.getLsbD 0
        m_due := t.m_due && !d.getLsbD 1
        s_due := t.s_due && !d.getLsbD 2 } := by
  have hclear (b due : Bool) : (if b then false else due) = (due && !b) := by cases b <;> simp
  simp only [TickSource.clearFlags, hclear]
  rfl

/-- Settles O39: what is cleared are flags, and the next firing rolls over the same levels. -/
theorem flagsWriteOneClears : Obligations.FlagsWriteOneClears := by
  intro d s
  refine ⟨writeWord_of_addr (a := 0x06) rfl d, ?_, fun t u ht hu hen => ?_⟩
  · exact congrArg (fun c => Host.Outcome.next (s.setTick c)) (s.tick.clearFlags_eq d)
  · cases ht
    rw [tick_of_exec_tick hu hen, setByTick_fires hen]
    exact ⟨fun hf => Bool.or_eq_true_iff.2 (.inr hf), fun hm => Bool.or_eq_true_iff.2 (.inr hm),
      fun hs => Bool.or_eq_true_iff.2 (.inr hs)⟩

/-! ## The snapshot of the counter (R164, R166, R168, R170, R173) -/

/-- Byte `k` of the counter, as its register reads it (10_state.md R48). -/
theorem extractByte_eq (c : Count) (k : Nat) : c.extractLsb' k 8 = (c >>> k).setWidth 8 := by
  ext i hi
  simp

theorem exec_rdTick0 (s : State) :
    exec .rdTick0 s = .next ((s.setTick s.tick.latch).setRdata (s.tick.tick_cnt.setWidth 8)) :=
  congrArg (fun v => Host.Outcome.next ((s.setTick s.tick.latch).setRdata v))
    (BitVec.setWidth_eq_extractLsb' (by decide)).symm

theorem exec_rdTick1 (s : State) :
    exec .rdTick1 s = .next (s.setRdata ((s.tick.tick_snap >>> 8).setWidth 8)) :=
  congrArg (fun v => Host.Outcome.next (s.setRdata v)) (extractByte_eq _ 8)

theorem exec_rdTick2 (s : State) :
    exec .rdTick2 s = .next (s.setRdata ((s.tick.tick_snap >>> 16).setWidth 8)) :=
  congrArg (fun v => Host.Outcome.next (s.setRdata v)) (extractByte_eq _ 16)

theorem exec_rdTick3 (s : State) :
    exec .rdTick3 s = .next (s.setRdata ((s.tick.tick_snap >>> 24).setWidth 8)) :=
  congrArg (fun v => Host.Outcome.next (s.setRdata v)) (extractByte_eq _ 24)

theorem decode_tick0Word : decode 0x1000 = .ok .rdTick0 := decodeOfEncodeIsTheEvent .rdTick0 rfl

/-- Only a TICK0 read takes a snapshot. -/
theorem exec_tick_snap {i : Instr} {s t : State} (hi : i ≠ .rdTick0) (h : exec i s = .next t) :
    t.tick.tick_snap = s.tick.tick_snap := by
  cases exec_next h with
  | latch v => exact absurd rfl hi
  | _ => rfl

theorem cyclePush_tick_snap {s t : State} (h : cyclePush s = .next t) : t.tick.tick_snap = s.tick.tick_snap := by
  unfold cyclePush at h
  split at h
  · exact exec_tick_snap (i := .push s.push_data) nofun h
  · cases h
    rfl

theorem cycleTick_tick_snap {s t : State} (h : cycleTick s = .next t) : t.tick.tick_snap = s.tick.tick_snap := by
  unfold cycleTick at h
  split at h
  · exact exec_tick_snap (i := .tick) nofun h
  · cases h
    rfl

/-- The snapshot that a bus event leaves stays to the end of its cycle. -/
theorem wholeCycle_tick_snap {w : EventWord} {i : Instr} {s t u : State} (hd : decode w = .ok i)
    (hexec : exec i { s with phase := .push } = .next t) (h : wholeCycle (some w) s = .next u) :
    u.tick.tick_snap = t.tick.tick_snap := by
  obtain ⟨s1, s2, hbus, hpush, htick⟩ := wholeCycle_next.1 h
  cases hexec.symm.trans ((cycleBus_ok hd _).symm.trans hbus)
  have hkept := cyclePush_tick_snap hpush
  exact (cycleTick_tick_snap htick).trans hkept

/-- Settles O42. -/
theorem counterBytesComeFromTheSnapshot : Obligations.CounterBytesComeFromTheSnapshot := fun s =>
  ⟨⟨readWord_eq 0x10, exec_rdTick0 s⟩,
    fun _ _ h => ⟨wholeCycle_bus_rdata decode_tick0Word (exec_rdTick0 _) h,
      wholeCycle_tick_snap decode_tick0Word (exec_rdTick0 _) h⟩,
    ⟨readWord_eq 0x11, exec_rdTick1 s⟩, ⟨readWord_eq 0x12, exec_rdTick2 s⟩, ⟨readWord_eq 0x13, exec_rdTick3 s⟩⟩

/-- Settles O43: the snapshot keeps the counter's value of the TICK0 read along the sequence. -/
theorem counterReadIsAtomic : Obligations.CounterReadIsAtomic := by
  intro is s s1 t popped stored hread hquiet hrun
  cases (exec_rdTick0 s).symm.trans hread
  have hsnap : t.tick.tick_snap = s.tick.tick_cnt :=
    eventRun_keeps (P := fun u => u.tick.tick_snap = s.tick.tick_cnt)
      (fun i hi _ _ hu hexec => (exec_tick_snap (hquiet i hi) hexec).trans hu) rfl hrun
  rw [← hsnap]
  exact ⟨by rw [hsnap]; rfl, exec_rdTick1 t, exec_rdTick2 t, exec_rdTick3 t⟩

/-! ## A service pass (R172) -/

theorem eventRun_append {is js : List Instr} {s t u : State} {popped stored popped' stored' : List Byte}
    (h : eventRun s is = some (t, popped, stored)) (h' : eventRun t js = some (u, popped', stored')) :
    eventRun s (is ++ js) = some (u, popped ++ popped', stored ++ stored') := by
  induction is generalizing s popped stored with
  | nil => cases h; exact h'
  | cons i is ih =>
    obtain ⟨v, popped1, stored1, hexec, hrun, rfl, rfl⟩ := eventRun_cons_eq_some.1 h
    exact eventRun_cons_eq_some.2
      ⟨v, _, _, hexec, ih hrun, List.append_assoc _ _ _, List.append_assoc _ _ _⟩

/-- The tick source after a FLAGS write of `d` that is made only when `due`. -/
def TickSource.clearIf (due : Bool) (d : Byte) (t : TickSource) : TickSource := if due then t.clearFlags d else t

theorem eventRun_clearIf (due : Bool) (d : Byte) (s : State) :
    eventRun s (if due = true then [.wrFlags d] else []) = some (s.setTick (s.tick.clearIf due d), [], []) := by
  cases due <;> rfl

theorem TickSource.clearIf_flags (due : Bool) (d : Byte) (t : TickSource) :
    (t.clearIf due d).f_due = (t.f_due && !(due && d.getLsbD 0)) ∧
      (t.clearIf due d).m_due = (t.m_due && !(due && d.getLsbD 1)) ∧
      (t.clearIf due d).s_due = (t.s_due && !(due && d.getLsbD 2)) := by
  cases due with
  | false => simp [TickSource.clearIf]
  | true => simp [TickSource.clearIf, TickSource.clearFlags_eq]

/-- The tick source after a service pass. -/
def TickSource.serviced (t : TickSource) : TickSource :=
  ((t.clearIf t.f_due 0x01).clearIf t.m_due 0x02).clearIf t.s_due 0x04

/-- Each write of the pass clears its own flag, if that was set, and leaves the other two. -/
theorem TickSource.serviced_flagsByte (t : TickSource) : t.serviced.flagsByte = 0x00 := by
  have hf : t.serviced.f_due = false := by simp [TickSource.serviced, TickSource.clearIf_flags]
  have hm : t.serviced.m_due = false := by simp [TickSource.serviced, TickSource.clearIf_flags]
  have hs : t.serviced.s_due = false := by simp [TickSource.serviced, TickSource.clearIf_flags]
  rw [TickSource.flagsByte, hf, hm, hs]
  rfl

/-- Settles O44. -/
theorem secondServicePassFindsNothing : Obligations.SecondServicePassFindsNothing := by
  intro s
  have hread : eventRun s [.rdFlags] = some (s.setRdata s.tick.flagsByte, [], []) := rfl
  have hfast := eventRun_append hread (eventRun_clearIf s.tick.f_due 0x01 _)
  have hmed := eventRun_append hfast (eventRun_clearIf s.tick.m_due 0x02 _)
  have hslow := eventRun_append hmed (eventRun_clearIf s.tick.s_due 0x04 _)
  refine ⟨_, hslow, ?_⟩
  exact congrArg (fun v => Host.Outcome.next (State.setRdata _ v)) s.tick.serviced_flagsByte

end Sys2Proof.Machine
end

/-! # The registers of control (42_control.md) -/

section
namespace Sys2Proof.Machine

/-! ## The reads of CMD and of the reserved addresses (R192, R193) -/

theorem zero_read {i : Instr} {a : Addr} {w : EventWord} {s : State} (hword : encode i = eventWord kindRead a 0)
    (hexec : exec i s = readReturns 0 s) (hw : a.zeroExtend 16 <<< 8 = w) :
    encode i = w ∧ exec i s = .next (s.setRdata 0) :=
  ⟨hword.trans ((readWord_eq a).trans hw), hexec⟩

/-- Settles O23: each event has a read's word, and its meaning is to read 0. -/
theorem cmdAndReservedReadZero : Obligations.CmdAndReservedReadZero := by
  intro a s
  refine ⟨?_, ?_, ?_, ?_, ?_, ?_⟩
  all_goals exact zero_read rfl rfl rfl

/-! ## CTRL (R190, R191) -/

theorem Ctrl.byte_eq (c : Ctrl) : c.byte = BitVec.ofNat 8 (2 * c.tick_en.toNat + c.rx_en.toNat) := by
  rw [Ctrl.byte, lowBits_eq, Bool.toNat_false, Nat.mul_zero, Nat.zero_add]

/-- The byte that CTRL reads as sets the enables it was read from. -/
theorem ctrlOfByte_byte (c : Ctrl) : ctrlOfByte c.byte = c := by
  obtain ⟨rx, tick⟩ := c
  cases rx <;> cases tick <;> rfl

theorem exec_rdCtrl (s : State) : exec .rdCtrl s = .next (s.setRdata s.ctrl.byte) := rfl

theorem exec_wrCtrl (d : Byte) (s : State) : exec (.wrCtrl d) s = .next (s.setCtrl (ctrlOfByte d)) := rfl

theorem exec_wrCtrl_byte (s : State) : exec (.wrCtrl s.ctrl.byte) s = .next s := by
  rw [exec_wrCtrl, ctrlOfByte_byte]
  rfl

/-- Settles O45. -/
theorem ctrlReadsAndSetsTheEnables : Obligations.CtrlReadsAndSetsTheEnables := by
  intro d s
  rw [← Ctrl.byte_eq]
  exact ⟨readWord_eq 0x04, exec_rdCtrl s, writeWord_of_addr (a := 0x04) rfl d, exec_wrCtrl d s, exec_wrCtrl_byte s⟩

/-! ## What events do under a mask (R195) -/

/-- Neither a CTRL write nor a flush: the events allowed between the mask and the write back. -/
def KeepsEnables (i : Instr) : Prop := ∀ d, i ≠ .wrCtrl d ∧ (i = .wrCmd d → d.getLsbD 0 = false)

theorem KeepsEnables.not_flush {d : Byte} (h : KeepsEnables (.wrCmd d)) : dataBit0 d = false := by
  obtain ⟨-, hbit⟩ := h d
  exact hbit rfl

/-- Only a CTRL write and a flush change an enable. -/
theorem exec_ctrl {i : Instr} {s t : State} (hi : KeepsEnables i) (h : exec i s = .next t) : t.ctrl = s.ctrl := by
  cases exec_next h with
  | setCtrl d =>
    obtain ⟨hctrl, -⟩ := hi d
    exact absurd rfl hctrl
  | flush d hd => exact absurd hd (Bool.eq_false_iff.1 hi.not_flush)
  | _ => rfl

theorem storedBy_of_masked {s : State} (hrx : s.ctrl.rx_en = false) (i : Instr) : storedBy i s = [] := by
  cases i with
  | push b => simp [storedBy, hrx]
  | _ => rfl

/-- With pushes masked and no flush, no event writes the array or moves the write index. -/
theorem exec_array_of_masked {i : Instr} {s t : State} (hrx : s.ctrl.rx_en = false) (hi : KeepsEnables i)
    (h : exec i s = .next t) : t.fifo.wr_idx = s.fifo.wr_idx ∧ t.fifo.x = s.fifo.x := by
  cases exec_next h with
  | store b hen => exact absurd hen (Bool.eq_false_iff.1 hrx)
  | flush d hd => exact absurd hd (Bool.eq_false_iff.1 hi.not_flush)
  | _ => exact ⟨rfl, rfl⟩

/-- `u` has the counter and the dividers of `t`, and no flag that `t` has not. -/
structure TickSource.HeldSince (t u : TickSource) : Prop where
  cnt : u.tick_cnt = t.tick_cnt
  fast : u.div_f = t.div_f
  med : u.div_m = t.div_m
  slow : u.div_s = t.div_s
  fastDue : u.f_due = true → t.f_due = true
  medDue : u.m_due = true → t.m_due = true
  slowDue : u.s_due = true → t.s_due = true

theorem TickSource.HeldSince.refl (t : TickSource) : t.HeldSince t := ⟨rfl, rfl, rfl, rfl, id, id, id⟩

theorem TickSource.HeldSince.trans {t u v : TickSource} (h : t.HeldSince u) (h' : u.HeldSince v) : t.HeldSince v where
  cnt := h'.cnt.trans h.cnt
  fast := h'.fast.trans h.fast
  med := h'.med.trans h.med
  slow := h'.slow.trans h.slow
  fastDue := h.fastDue ∘ h'.fastDue
  medDue := h.medDue ∘ h'.medDue
  slowDue := h.slowDue ∘ h'.slowDue

/-- A FLAGS write sets no flag. -/
theorem TickSource.clearFlags_heldSince (t : TickSource) (d : Byte) : t.HeldSince (t.clearFlags d) := by
  rw [TickSource.clearFlags_eq]
  exact ⟨rfl, rfl, rfl, rfl, Bool.and_elim_left, Bool.and_elim_left, Bool.and_elim_left⟩

/-- With ticks masked no event moves the chain or sets a flag. -/
theorem exec_heldSince {i : Instr} {s t : State} (hen : s.ctrl.tick_en = false) (h : exec i s = .next t) :
    s.tick.HeldSince t.tick := by
  cases exec_next h with
  | fire hen' => exact absurd hen' (Bool.eq_false_iff.1 hen)
  | clearFlags d => exact s.tick.clearFlags_heldSince d
  | _ => exact ⟨rfl, rfl, rfl, rfl, id, id, id⟩

/-! ## What sequences of events do under a mask (R195) -/

section

variable {is : List Instr} {s t : State} {popped stored : List Byte}

theorem eventRun_ctrl (hquiet : ∀ i ∈ is, KeepsEnables i) (h : eventRun s is = some (t, popped, stored)) :
    t.ctrl = s.ctrl :=
  eventRun_keeps (P := fun u => u.ctrl = s.ctrl) (fun i hi _ _ hu hexec => (exec_ctrl (hquiet i hi) hexec).trans hu)
    rfl h

theorem eventRun_masked_push (hquiet : ∀ i ∈ is, KeepsEnables i) (h : eventRun s is = some (t, popped, stored))
    (hrx : s.ctrl.rx_en = false) :
    stored = [] ∧ t.fifo.wr_idx = s.fifo.wr_idx ∧ t.fifo.x = s.fifo.x := by
  induction is generalizing s popped stored with
  | nil => cases h; exact ⟨rfl, rfl, rfl⟩
  | cons i is ih =>
    obtain ⟨u, _, _, hexec, hrun, -, rfl⟩ := eventRun_cons_eq_some.1 h
    have hi := hquiet i List.mem_cons_self
    have hrxu : u.ctrl.rx_en = false := by rw [exec_ctrl hi hexec, hrx]
    obtain ⟨hwr, hx⟩ := exec_array_of_masked hrx hi hexec
    obtain ⟨rfl, hwrt, hxt⟩ := ih (fun j hj => hquiet j (List.mem_cons_of_mem i hj)) hrun hrxu
    exact ⟨by rw [storedBy_of_masked hrx, List.append_nil], hwrt.trans hwr, hxt.trans hx⟩

theorem eventRun_masked_tick (hquiet : ∀ i ∈ is, KeepsEnables i) (h : eventRun s is = some (t, popped, stored))
    (hen : s.ctrl.tick_en = false) : acceptedTicks s is = 0 ∧ s.tick.HeldSince t.tick := by
  obtain ⟨-, hzero, hheld⟩ : t.ctrl.tick_en = false ∧ 0 + acceptedTicks s is = 0 ∧ s.tick.HeldSince t.tick := by
    refine eventRun_counts (P := fun k u => u.ctrl.tick_en = false ∧ k = 0 ∧ s.tick.HeldSince u.tick) ?_
      ⟨hen, rfl, .refl _⟩ h
    intro i hi k u v ⟨henu, hk, hu⟩ hexec
    have hnot : ¬(i = .tick ∧ u.ctrl.tick_en = true) := fun hacc => Bool.eq_false_iff.1 henu hacc.2
    refine ⟨?_, ?_, hu.trans (exec_heldSince henu hexec)⟩
    · rw [exec_ctrl (hquiet i hi) hexec, henu]
    · rw [acceptedBy_of_not_accepted hnot, hk]
  exact ⟨(Nat.zero_add _).symm.trans hzero, hheld⟩

end

/-- Settles O46: along the sequence the enables stay those of the mask, and the byte written back is the one that was
read from the enables before it. -/
theorem maskHoldsUntilRestored : Obligations.MaskHoldsUntilRestored := by
  intro is m s s1 s2 t u popped stored hread hmask hquiet hrun hrestore
  cases (exec_rdCtrl s).symm.trans hread
  cases (exec_wrCtrl m _).symm.trans hmask
  cases (exec_wrCtrl _ t).symm.trans hrestore
  have hpush := eventRun_masked_push hquiet hrun
  have htick := eventRun_masked_tick hquiet hrun
  refine ⟨eventRun_ctrl hquiet hrun, hpush, fun hen => ?_, ctrlOfByte_byte s.ctrl⟩
  obtain ⟨hzero, hheld⟩ := htick hen
  exact ⟨hzero, hheld.cnt, hheld.fast, hheld.med, hheld.slow, hheld.fastDue, hheld.medDue, hheld.slowDue⟩

end Sys2Proof.Machine
end

/-! # The outcome of every event, and who may change what (60_exceptions.md) -/

section
namespace Sys2Proof.Machine

/-! ## Every event completes (R210) -/

/-- The only events that access the array are PUSH, at the write index, and the RXDATA read, at the read index; R26
keeps both below CAP. -/
theorem exec_completes {s : State} (hf : s.fifo.Inv) (i : Instr) : ∃ t, exec i s = .next t := by
  cases i with
  | push b =>
    cases hrx : s.ctrl.rx_en with
    | false => exact ⟨_, exec_push_next.2 (.inl ⟨hrx, rfl⟩)⟩
    | true =>
      cases hfull : s.fifo.full with
      | true => exact ⟨_, exec_push_next.2 (.inr (.inl ⟨hrx, hfull, rfl⟩))⟩
      | false => exact ⟨_, exec_push_next.2 (.inr (.inr ⟨hrx, hfull, hf.wr_lt, rfl⟩))⟩
  | rdRxdata =>
    by_cases hc : s.fifo.count = 0
    · exact ⟨_, exec_rdRxdata_next.2 (.inl ⟨hc, rfl⟩)⟩
    · exact ⟨_, exec_rdRxdata_next.2 (.inr ⟨hc, hf.rd_lt, rfl⟩)⟩
  | wrCmd d =>
    cases hd : dataBit0 d with
    | false => exact ⟨_, exec_wrCmd_next.2 (.inl ⟨hd, rfl⟩)⟩
    | true => exact ⟨_, exec_wrCmd_next.2 (.inr ⟨hd, rfl⟩)⟩
  | tick =>
    cases hen : s.ctrl.tick_en with
    | false => exact ⟨_, exec_tick_masked hen⟩
    | true => exact ⟨_, exec_tick_fires hen⟩
  | _ => exact ⟨_, rfl⟩

/-! A word that spells no event, both strobes and a sender's breach are refused: between events nothing faults. -/

theorem perform_ne_fault {w : EventWord} {s : State} (hf : s.fifo.Inv) (r : Fault) : perform exec w s ≠ .fault r := by
  cases hd : decode w with
  | ok i =>
    obtain ⟨t, hexec⟩ := exec_completes hf i
    rw [perform_ok hd, hexec]
    nofun
  | error e =>
    rw [perform_error hd]
    nofun

theorem beginCycle_ne_fault (rst : Bool) (b : Bus) (s : State) (r : Fault) : s.beginCycle rst b ≠ .fault r := by
  unfold State.beginCycle
  split_ifs <;> nofun

theorem producerEdge_ne_fault (start : Option Byte) (s : State) (r : Fault) : s.producerEdge start ≠ .fault r := by
  cases start with
  | none => nofun
  | some b =>
    rw [producerEdge_some]
    split_ifs <;> nofun

theorem tickGenEdge_ne_fault (start : Bool) (s : State) (r : Fault) : s.tickGenEdge start ≠ .fault r := by
  unfold State.tickGenEdge
  split_ifs <;> nofun

theorem takeInput_ne_fault (s : State) (r : Fault) : s.takeInput ≠ .fault r := by
  unfold State.takeInput
  split
  · exact beginCycle_ne_fault _ _ _ r
  · exact beginCycle_ne_fault _ _ _ r
  · exact producerEdge_ne_fault _ _ r
  · exact tickGenEdge_ne_fault _ _ r

theorem step_ne_fault {s : State} (hf : s.fifo.Inv) (r : Fault) : step s ≠ .fault r := by
  cases he : s.event with
  | some w =>
    rw [step_of_event he]
    exact perform_ne_fault (s := { s with event := none }) hf r
  | none =>
    cases hp : s.phase with
    | cycle =>
      rw [step_of_cycle_phase he hp]
      exact takeInput_ne_fault s r
    | push =>
      rw [step_of_push_phase he hp]
      nofun
    | tick =>
      rw [step_of_tick_phase he hp]
      nofun

/-- Settles O51. -/
theorem everyEventCompletes : Obligations.EveryEventCompletes :=
  ⟨fun i _ hs => exec_completes hs.fifo i, fun _ r hs => step_ne_fault hs.fifo r⟩

/-! ## Each field keeps its value, or its port's event has come (R220) -/

namespace Effect

variable {i : Instr} {s t : State}

theorem x_cases (h : Effect s i t) : t.fifo.x = s.fifo.x ∨ ∃ b, i = .push b := by
  cases h with
  | store b hrx hfull hlt => exact .inr ⟨b, rfl⟩
  | _ => exact .inl rfl

theorem wr_idx_cases (h : Effect s i t) :
    t.fifo.wr_idx = s.fifo.wr_idx ∨ (∃ b, i = .push b) ∨ ∃ d, i = .wrCmd d := by
  cases h with
  | store b hrx hfull hlt => exact .inr (.inl ⟨b, rfl⟩)
  | flush d hd => exact .inr (.inr ⟨d, rfl⟩)
  | _ => exact .inl rfl

theorem rd_idx_cases (h : Effect s i t) :
    t.fifo.rd_idx = s.fifo.rd_idx ∨ i = .rdRxdata ∨ ∃ d, i = .wrCmd d := by
  cases h with
  | pop hc hlt => exact .inr (.inl rfl)
  | flush d hd => exact .inr (.inr ⟨d, rfl⟩)
  | _ => exact .inl rfl

/-- A pop takes one and a flush all, so the count rises by a store only. -/
theorem count_raised (h : Effect s i t) (hlt : s.fifo.count.toNat < t.fifo.count.toNat) : ∃ b, i = .push b := by
  obtain heq | ⟨-, hc, heq⟩ | ⟨d, -, heq⟩ | ⟨b, hi, -⟩ := h.fifo_cases
  · exact absurd hlt (heq ▸ lt_irrefl _)
  · rw [heq, Fifo.advanceRead_count, Fifo.count_pred_toNat hc] at hlt
    omega
  · rw [heq] at hlt
    exact absurd hlt (Nat.not_lt_zero _)
  · exact ⟨b, hi⟩

/-- A store below full does not wrap the count, so it falls by a pop or a flush only. -/
theorem count_lowered (h : Effect s i t) (hf : s.fifo.Inv) (hlt : t.fifo.count.toNat < s.fifo.count.toNat) :
    i = .rdRxdata ∨ ∃ d, i = .wrCmd d := by
  obtain heq | ⟨hi, -⟩ | ⟨d, hi, -⟩ | ⟨b, -, hfull, heq⟩ := h.fifo_cases
  · exact absurd hlt (heq ▸ lt_irrefl _)
  · exact .inl hi
  · exact .inr ⟨d, hi⟩
  · rw [heq, Fifo.store_count, hf.count_succ_toNat hfull] at hlt
    omega

theorem count_cases (h : Effect s i t) :
    t.fifo.count = s.fifo.count ∨ (∃ b, i = .push b) ∨ i = .rdRxdata ∨ ∃ d, i = .wrCmd d := by
  obtain heq | ⟨hi, -⟩ | ⟨d, hi, -⟩ | ⟨b, hi, -⟩ := h.fifo_cases
  · exact .inl (congrArg Fifo.count heq)
  · exact .inr (.inr (.inl hi))
  · exact .inr (.inr (.inr ⟨d, hi⟩))
  · exact .inr (.inl ⟨b, hi⟩)

/-- Only a TICK moves the counter or a divider, or sets a flag. -/
theorem tick_heldSince (h : Effect s i t) : s.tick.HeldSince t.tick ∨ i = .tick := by
  cases h with
  | fire hen => exact .inr rfl
  | clearFlags d => exact .inl (s.tick.clearFlags_heldSince d)
  | _ => exact .inl ⟨rfl, rfl, rfl, rfl, id, id, id⟩

/-- Only a FLAGS write clears a flag. -/
theorem flags_kept (h : Effect s i t) :
    ((s.tick.f_due = true → t.tick.f_due = true) ∧ (s.tick.m_due = true → t.tick.m_due = true) ∧
      (s.tick.s_due = true → t.tick.s_due = true)) ∨ ∃ d, i = .wrFlags d := by
  cases h with
  | clearFlags d => exact .inr ⟨d, rfl⟩
  | fire hen =>
    exact .inl ⟨fun hf => Bool.or_eq_true_iff.2 (.inl hf), fun hm => Bool.or_eq_true_iff.2 (.inl hm),
      fun hs => Bool.or_eq_true_iff.2 (.inl hs)⟩
  | _ => exact .inl ⟨id, id, id⟩

theorem ctrl_cases (h : Effect s i t) : t.ctrl = s.ctrl ∨ (∃ d, i = .wrCtrl d) ∨ ∃ d, i = .wrCmd d := by
  cases h with
  | setCtrl d => exact .inr (.inl ⟨d, rfl⟩)
  | flush d hd => exact .inr (.inr ⟨d, rfl⟩)
  | _ => exact .inl rfl

/-- Each ratio has its own write. -/
theorem ratio_cases (h : Effect s i t) :
    (t.tick.ratio_f = s.tick.ratio_f ∨ ∃ d, i = .wrFastRatio d) ∧
      (t.tick.ratio_m = s.tick.ratio_m ∨ ∃ d, i = .wrMedRatio d) ∧
      (t.tick.ratio_s = s.tick.ratio_s ∨ ∃ d, i = .wrSlowRatio d) := by
  cases h with
  | setFastRatio d => exact ⟨.inr ⟨d, rfl⟩, .inl rfl, .inl rfl⟩
  | setMedRatio d => exact ⟨.inl rfl, .inr ⟨d, rfl⟩, .inl rfl⟩
  | setSlowRatio d => exact ⟨.inl rfl, .inl rfl, .inr ⟨d, rfl⟩⟩
  | _ => exact ⟨.inl rfl, .inl rfl, .inl rfl⟩

end Effect

/-- Settles O52: for each field, the event of its port is what remains when the field has changed. -/
theorem accessRightsAreFixedByPort : Obligations.AccessRightsAreFixedByPort := by
  intro i s t hexec
  have h := exec_next hexec
  have hticks := h.tick_heldSince
  obtain ⟨hfast, hmed, hslow⟩ := h.ratio_cases
  refine ⟨h.x_cases.resolve_left, h.wr_idx_cases.resolve_left, h.rd_idx_cases.resolve_left, h.count_raised,
    h.count_lowered, h.count_cases.resolve_left, fun hne => hticks.resolve_left fun held => hne held.cnt,
    fun hne => hticks.resolve_left fun held => ?_, fun hset => hticks.resolve_left fun held => ?_,
    fun hcleared => h.flags_kept.resolve_left fun ⟨hf, hm, hs⟩ => ?_, h.ctrl_cases.resolve_left,
    hfast.resolve_left, hmed.resolve_left, hslow.resolve_left,
    not_imp_comm.1 fun hi => exec_tick_snap hi hexec⟩
  · obtain hne | hne | hne := hne
    · exact hne held.fast
    · exact hne held.med
    · exact hne held.slow
  · obtain ⟨hclear, hdue⟩ | ⟨hclear, hdue⟩ | ⟨hclear, hdue⟩ := hset
    · exact Bool.eq_false_iff.1 hclear (held.fastDue hdue)
    · exact Bool.eq_false_iff.1 hclear (held.medDue hdue)
    · exact Bool.eq_false_iff.1 hclear (held.slowDue hdue)
  · obtain ⟨hdue, hclear⟩ | ⟨hdue, hclear⟩ | ⟨hdue, hclear⟩ := hcleared
    · exact Bool.eq_false_iff.1 hclear (hf hdue)
    · exact Bool.eq_false_iff.1 hclear (hm hdue)
    · exact Bool.eq_false_iff.1 hclear (hs hdue)

end Sys2Proof.Machine
end

/-! # Reset (70_reset_and_hazards.md) -/

section
namespace Sys2Proof.Machine

/-! ## The values of reset, one lemma per field (R241, R242) -/

@[simp] theorem Fifo.reset_cap (cap era : Nat) : (Fifo.reset cap era).cap = cap := rfl
@[simp] theorem Fifo.reset_rd_idx (cap era : Nat) : (Fifo.reset cap era).rd_idx = 0 := rfl
@[simp] theorem Fifo.reset_wr_idx (cap era : Nat) : (Fifo.reset cap era).wr_idx = 0 := rfl
@[simp] theorem Fifo.reset_count (cap era : Nat) : (Fifo.reset cap era).count = 0 := rfl

@[simp] theorem TickSource.reset_tick_cnt : TickSource.reset.tick_cnt = 0 := rfl
@[simp] theorem TickSource.reset_tick_snap : TickSource.reset.tick_snap = 0 := rfl
@[simp] theorem TickSource.reset_div_f : TickSource.reset.div_f = 0 := rfl
@[simp] theorem TickSource.reset_div_m : TickSource.reset.div_m = 0 := rfl
@[simp] theorem TickSource.reset_div_s : TickSource.reset.div_s = 0 := rfl
@[simp] theorem TickSource.reset_ratio_f : TickSource.reset.ratio_f = 5 := rfl
@[simp] theorem TickSource.reset_ratio_m : TickSource.reset.ratio_m = 10 := rfl
@[simp] theorem TickSource.reset_ratio_s : TickSource.reset.ratio_s = 10 := rfl
@[simp] theorem TickSource.reset_f_due : TickSource.reset.f_due = false := rfl
@[simp] theorem TickSource.reset_m_due : TickSource.reset.m_due = false := rfl
@[simp] theorem TickSource.reset_s_due : TickSource.reset.s_due = false := rfl

theorem Port.reset_eq : Port.reset = ⟨false, ⟨false, false⟩, false, ⟨false, false⟩⟩ := rfl

@[simp] theorem State.reset_fifo : State.reset.fifo = Fifo.reset Config.CAP 0 := rfl
@[simp] theorem State.reset_tick : State.reset.tick = TickSource.reset := rfl
@[simp] theorem State.reset_ctrl : State.reset.ctrl = { rx_en := true, tick_en := true } := rfl
@[simp] theorem State.reset_pushPort : State.reset.pushPort = Port.reset := rfl
@[simp] theorem State.reset_tickPort : State.reset.tickPort = Port.reset := rfl
@[simp] theorem State.reset_event : State.reset.event = none := rfl

/-! ## A cycle with `rst` = 1 (R240) -/

/-- The bus wires have no part in the answer. -/
theorem step_clk_reset {s : State} {b : Bus} {rest : List Input} (he : s.event = none) (hp : s.phase = .cycle)
    (hin : s.inputs = .clk true b :: rest) : step s = .next (State.resetCycle { s with inputs := rest }) := by
  rw [step_of_cycle_phase he hp, State.takeInput, hin]
  rfl

/-- Settles O13: the step is `step_clk_reset`, and its fields are the values above. -/
theorem resetCycleResetsEveryField : Obligations.ResetCycleResetsEveryField := by
  intro s b rest he hp hin
  refine ⟨_, step_clk_reset he hp hin, ?_⟩
  simp [Port.reset_eq]

/-! ## The reset state -/

/-- Settles O14: the values above, with the range of CAP (00_scope.md R8). -/
theorem resetStateHasTheSpecsValues : Obligations.ResetStateHasTheSpecsValues := by
  have hcap : 1 ≤ State.reset.fifo.cap ∧ State.reset.fifo.cap ≤ 255 := ⟨CAP_pos, CAP_le⟩
  simpa [Obligations.ResetStateHasTheSpecsValues, Port.reset_eq] using hcap

/-- Settles O48. -/
theorem resetMeetsTheInvariant : Obligations.ResetMeetsTheInvariant :=
  ⟨Fifo.reset_inv CAP_pos CAP_le 0, TickSource.reset_inv⟩

/-- Settles O50: both ports are at rest, and no word waits. -/
theorem resetMeetsTheHandshakes : Obligations.ResetMeetsTheHandshakes :=
  .of_no_event Port.reset_inv Port.reset_inv State.reset_event

/-! ## FLUSH right after reset (R245) -/

theorem Fifo.flush_of_cleared {f : Fifo} (hrd : f.rd_idx = 0) (hwr : f.wr_idx = 0) (hc : f.count = 0) :
    f.flush = f := by
  obtain ⟨cap, x, rd, wr, count, era⟩ := f
  cases hrd
  cases hwr
  cases hc
  rfl

/-- A flush changes nothing where the FIFO is already cleared and `rx_en` already 1. -/
theorem State.flushed_eq_self {s : State} (hfifo : s.fifo.flush = s.fifo) (hrx : s.ctrl.rx_en = true) :
    s.flushed = s := by
  rw [State.flushed, hfifo, ← hrx]
  rfl

/-- Settles O15. -/
theorem flushAfterResetChangesNothing : Obligations.FlushAfterResetChangesNothing := by
  have hfifo : State.reset.fifo.flush = State.reset.fifo := Fifo.flush_of_cleared rfl rfl rfl
  have hself : State.reset.flushed = State.reset := State.flushed_eq_self hfifo rfl
  exact (exec_wrCmd_flush (by decide) State.reset).trans (congrArg _ hself)

end Sys2Proof.Machine
end
